-- ==== Sys2Proof/Word.lean ====
section
/-! DEFINITION. The byte, and the two fixed arrays the block is built from. -/

namespace Sys2Proof

/-- A `u8` (00_scope.md R17). -/
abbrev Byte := BitVec 8

/-- A byte buffer of FRAME_CAPACITY = 16 cells, indices 0 to 15 (00_scope.md R14, R18). -/
abbrev Buf := Vector Byte 16

/-- The contents of the CRC table ROM: 256 cells of one byte (20_memory.md R41), laid out as 40_crc_engine.md R91 prints
them, row = high nibble of the index, column = low nibble. -/
abbrev CrcTable := Vector (Vector Byte 16) 16

end Sys2Proof
end

