-- ==== Sys2Proof/Machine/CrcEngine.lean ====
section
/-! DEFINITION. The CRC Engine's function (40_crc_engine.md R90, R92). -/

namespace Sys2Proof.Machine

/-- One ROM read (20_memory.md R41): the index is a byte, so it is always one of the 256 cells. -/
def romRead (t : CrcTable) (index : Byte) : Byte :=
  (t[index.toNat / 16]'(by have := index.isLt; omega))[index.toNat % 16]'(by omega)

/-- acc <- CRC_TABLE[acc XOR b] (R90). -/
def crcStep (t : CrcTable) (acc b : Byte) : Byte := romRead t (acc ^^^ b)

/-- crc8 (R90): initial accumulator 0, one step per byte in order, the final accumulator is the checksum. -/
def crc8 (t : CrcTable) (s : List Byte) : Byte := s.foldl (crcStep t) 0x00

end Sys2Proof.Machine
end

