-- ==== Sys2Proof/Config.lean ====
section
/-! DEFINITION. The configuration constants of 10_state.md R30: what an implementation straps or hardwires. The source
gives no value for any of them (00_scope.md R8 to R11, R15), so the model leaves every one of them free. -/

namespace Sys2Proof

/-- The configuration constants (00_scope.md R8 to R11, R15; 10_state.md R30). -/
structure Config where
  /-- NUM_MODULES, the number of valid module addresses (R8). -/
  numModules : Nat
  /-- The sentinel MODULE_NONE (R9). -/
  moduleNone : Byte
  /-- The sentinel MODULE_ALL (R9). -/
  moduleAll : Byte
  /-- The sentinel INVALID_LOCATION, the only one the block produces (R9). -/
  invalidLocation : Byte
  /-- VERSION, the high nibble of frame byte 3 (R10). -/
  version : BitVec 4
  /-- OWN_LOCATION, the source byte of every encoded frame (R11). -/
  ownLocation : Byte
  /-- CRC_TABLE, the contents of the ROM (R15). -/
  crcTable : CrcTable
  deriving DecidableEq, Repr, Inhabited

/-- What R8 and R9 demand of the constants: 1 <= NUM_MODULES <= 253; the sentinels pairwise distinct, each
>= NUM_MODULES. (R10 and R11 hold by the fields' widths; R15 puts no condition on the table.) -/
abbrev Config.Legal (c : Config) : Prop :=
  1 ≤ c.numModules ∧ c.numModules ≤ 253 ∧
  c.numModules ≤ c.moduleNone.toNat ∧ c.numModules ≤ c.moduleAll.toNat ∧
  c.numModules ≤ c.invalidLocation.toNat ∧
  c.moduleNone ≠ c.moduleAll ∧ c.moduleNone ≠ c.invalidLocation ∧ c.moduleAll ≠ c.invalidLocation

/-- The example instantiation of 00_scope.md R16, used by the test vectors. "The other values are the spec's own choice
for testing and are not properties of the hardware": nothing but a test may rest on them. -/
def Config.sample : Config :=
  { numModules := 3, moduleNone := 0x03, moduleAll := 0x04, invalidLocation := 0x05, version := 1,
    ownLocation := 0x01, crcTable := Machine.defaultCrcTable }

/-- The values strapped before reset: FREE, no body, so no proof can see one (log entry 1; 93 entry I2). -/
opaque Config.straps : Config

/-- The configuration at reset: the straps where they are legal. An illegal strapping is outside R8 and R9; it is
replaced by a legal one so that the constants of a run are always legal, and every legal set remains possible
(DESIGN CHOICE, log entry 1). -/
def Config.atReset : Config := if Config.straps.Legal then Config.straps else Config.sample

end Sys2Proof
end

