-- ==== Sys2Proof/Syntax.lean ====
section
/-! DEFINITION. The command bundle as the host presents it, and the seven commands it can spell. -/

namespace Sys2Proof

/-- The command bundle (30_encoding.md R62). A command reads only its own fields; the others are ignored. -/
structure Bundle where
  /-- Command word (R61): CMD[3:0] is the opcode, CMD[7:4] must be 0. -/
  cmd : Byte
  /-- Destination Location. -/
  dest : Byte
  /-- Key operand: REKEY's new key, ENCODE's frame key. -/
  okey : Byte
  /-- Raw address byte. -/
  raw : Byte
  /-- Number of valid bytes in BUF, 0 to 31. -/
  len : BitVec 5
  /-- Byte operand. -/
  buf : Buf
  deriving DecidableEq, Repr

/-- One constructor per row of spec/opcode_table.json, with the bundle fields R62 and R64 give that command. The fields
are carried as the bundle has them; the meanings assemble the operands (R44, R64: cells at index >= LEN read 0x00). -/
inductive Instr where
  /-- RECEIVE (42_session.md R130): no operands. -/
  | receive
  /-- SEND (42_session.md R140): DEST, LEN, BUF. -/
  | send (dest : Byte) (len : BitVec 5) (buf : Buf)
  /-- REKEY (42_session.md R146): OKEY. -/
  | rekey (newKey : Byte)
  /-- CRC8 (40_crc_engine.md R95): LEN, BUF. -/
  | crc8 (len : BitVec 5) (buf : Buf)
  /-- ENCODE (41_frame_codec.md R101): DEST, OKEY, LEN, BUF. -/
  | encode (dest key : Byte) (len : BitVec 5) (buf : Buf)
  /-- DECODE (41_frame_codec.md R113): LEN, BUF. -/
  | decode (len : BitVec 5) (buf : Buf)
  /-- RESOLVE (43_address_resolver.md R152): RAW. -/
  | resolve (raw : Byte)
  deriving DecidableEq, Repr

/-- The verdict on a bundle that spells no command: IllegalCommand(CMD, LEN) (30_encoding.md R66). -/
structure IllegalCommand where
  cmd : Byte
  len : BitVec 5
  deriving DecidableEq, Repr

end Sys2Proof
end

