-- ==== Sys2Proof/Machine/State.lean ====
section
/-! DEFINITION. The machine's state (10_state.md R24), the records that cross its boundary (30_encoding.md R70, R80 to R83),
the reasons it can stop, and the state after reset (70_reset_and_hazards.md R180). -/

namespace Sys2Proof.Machine

/-- The controller state FSM (R26). Its 2-bit code is `Fsm.code`; no 2-bit value is illegal. -/
inductive Fsm where
  /-- 0: no command in progress; the command port is ready. -/
  | idle
  /-- 1: a RECEIVE has issued its one poll. -/
  | rxWait
  /-- 2: a SEND has handed its frame to the transport. -/
  | txWait
  /-- 3: a SEND has asked the transport to re-enter continuous-receive mode. -/
  | restoreWait
  deriving DecidableEq, Repr

/-- The closed error taxonomy (R79), in its order. Its 4-bit code is `ErrorKind.code`; codes 10 to 15 are never written. -/
inductive ErrorKind where
  | noError
  | crcError
  | invalidHeaderError
  | arraySizeError
  | doubleFrameError
  | sizingError
  | keyError
  | hwError
  | timeoutError
  | initError
  deriving DecidableEq, Repr

/-- The response's TAG (R70). Its 2-bit code is `Tag.code`; code 3 is never written. -/
inductive Tag where
  /-- 0: after reset, no command has completed or been refused. -/
  | none
  /-- 1: a command completed. -/
  | done
  /-- 2: a bundle was refused. -/
  | illegal
  deriving DecidableEq, Repr

/-- The response record (R70). -/
structure Response where
  tag : Tag
  /-- OPC of the command this response belongs to. -/
  op : BitVec 4
  err : ErrorKind
  avail : Bool
  valid : Bool
  dst : Byte
  src : Byte
  ver : BitVec 4
  size : BitVec 4
  fkey : Byte
  crc : Byte
  loc : Byte
  len : BitVec 5
  buf : Buf
  deriving DecidableEq, Repr

/-- A request to the transport (R80). -/
inductive Request where
  /-- RxReq(max_len). -/
  | rx (maxLen : Nat)
  /-- TxReq(bytes, length). -/
  | tx (bytes : List Byte) (length : BitVec 5)
  /-- CrxReq(). -/
  | crx
  deriving DecidableEq, Repr

/-- The status of a receive answer (R81): 0 NO_DATA, 1 OK, 2 HW_ERROR, 3 TIMEOUT; all four codes are defined. -/
inductive RxStatus where
  | noData
  | ok
  | hwError
  | timeout
  deriving DecidableEq, Repr

/-- The status of a send answer (R82): 0 OK, 1 HW_ERROR, 2 TIMEOUT; 3 is reserved and breaks the contract. -/
inductive TxStatus where
  | ok
  | hwError
  | timeout
  | reserved
  deriving DecidableEq, Repr

/-- An answer of the transport (R81 to R83). RxAns(status, n, bytes) has `bytes` a sequence of n bytes, so n is its
length (log entry 12); n is not bounded here, so an answer longer than asked for can be written down (R43). -/
inductive Answer where
  | rx (status : RxStatus) (bytes : List Byte)
  | tx (status : TxStatus)
  | crx (ok : Bool)
  deriving DecidableEq, Repr

/-- What the environment does in one step (60_exceptions.md R176): it may assert reset, the host may drive a bundle onto
the command port, the transport may answer. -/
structure EnvMove where
  reset : Bool
  present : Option Bundle
  answer : Option Answer
  deriving DecidableEq, Repr

/-- A step in which the environment does nothing. -/
def quiet : EnvMove := { reset := false, present := Option.none, answer := Option.none }

/-- The state: the registers of R24, the configuration (R30), the bundle held on the command port (R60), the records of
the run (R166, R195), and the environment's moves to come (log entry 3). -/
structure State where
  /-- KEY: the current shared key (R25). -/
  key : Byte
  /-- FSM: the controller state (R26). -/
  fsm : Fsm
  /-- TXBUF: the frame of the SEND in progress (R27). -/
  txbuf : Buf
  /-- TXLEN: the length of the frame in TXBUF (R27). -/
  txlen : BitVec 5
  /-- SENDST: the captured send result, a 4-bit ErrorKind code (R28). -/
  sendst : ErrorKind
  /-- RESP: the response of the last completed or refused command (R29). -/
  resp : Response
  /-- The configuration constants: read by the rules, written by nothing (R30). -/
  cfg : Config
  /-- The bundle the host presents and holds (R60). -/
  port : Option Bundle
  /-- The transport requests issued in this run, oldest first (R80, R195). -/
  requests : List Request
  /-- The refusal mark: the bundles refused in this run, oldest first (R66, R166). -/
  refusals : List IllegalCommand
  /-- The environment's moves from here on, one a step; after the last it does nothing. -/
  env : List EnvMove
  deriving DecidableEq, Repr

/-- The transport's breaches of contract (R165). Each stops the model and is never cleared (R19). -/
inductive Fault where
  /-- RxLengthOverCapacity (R43): RxAns with status OK and n > 16; raised by RECEIVE's answer step. Safe: the spec does not
  say what the chip does next (93 entry I4), and the model claims nothing of such a run. -/
  | rxLengthOverCapacity
  /-- TxStatusReserved (R82): TxAns with status 3; raised by SEND's first answer step. Safe, as above. -/
  | txStatusReserved
  /-- UnexpectedAnswer (R86, R183): an answer with no outstanding request or of another kind; raised by any step that
  consumes an answer. Safe, as above. -/
  | unexpectedAnswer
  deriving DecidableEq, Repr

/-- Why a step has no meaning. -/
inductive Refusal where
  /-- An instruction with no meaning yet; no arm of `exec` raises it. Safe. -/
  | notModelled (mnemonic : String)
  /-- The host drove another bundle while one was held: a breach of its duty (R60, R176), for which the spec gives no
  move (93 entry I6); raised by the step, by no instruction. Safe: nothing is claimed of such a run (log entry 9). -/
  | heldBundleChanged
  deriving DecidableEq, Repr

/-- The outcome of a step of this machine. -/
abbrev Outcome := Host.Outcome State Fault Refusal

/-- A buffer of 16 cells of 0x00. -/
def zeroBuf : Buf := Vector.replicate 16 0

/-- The reset response (R72): TAG = NONE, every other field 0. -/
def resetResponse : Response :=
  { tag := .none, op := 0, err := .noError, avail := false, valid := false, dst := 0, src := 0, ver := 0, size := 0,
    fkey := 0, crc := 0, loc := 0, len := 0, buf := zeroBuf }

/-- The state right after reset (R180): every register at its reset value; nothing presented (R185), no request issued,
no refusal mark, and an environment that does nothing (log entry 3). The configuration is free (log entry 1). -/
def State.reset : State :=
  { key := 0x00, fsm := .idle, txbuf := zeroBuf, txlen := 0, sendst := .noError, resp := resetResponse,
    cfg := Config.atReset, port := Option.none, requests := [], refusals := [], env := [] }

end Sys2Proof.Machine
end

