-- ==== Sys2Proof/Machine/Operands.lean ====
section
/-! DEFINITION. Buffer cells and operand assembly (20_memory.md R42 to R44; 30_encoding.md R64). -/

namespace Sys2Proof.Machine

/-- buf[i], one byte (R42). Every index a rule computes is at most 15 (R42, R108); the value given past the end, 0x00, is
never used (log entry 19). -/
def cell (b : Buf) (i : Nat) : Byte := b.toList.getD i 0

/-- buf[a .. b), the cells from a up to but not b (00_scope.md R18). -/
def cells (buf : Buf) (a b : Nat) : List Byte := (buf.toList.take b).drop a

/-- A sequence of at most 16 bytes laid into a buffer, 0x00 in every cell past its end (R43, R44). -/
def bufOfBytes (l : List Byte) : Buf := Vector.ofFn fun i => l.getD i.val 0

/-- The bytes a command reads from the bundle: BUF[0 .. LEN) (R64). -/
def operandBytes (len : BitVec 5) (buf : Buf) : List Byte := cells buf 0 len.toNat

/-- The operand buffer as a command sees it: the host's cells at index >= LEN are ignored and read 0x00 (R44). -/
def operandBuf (len : BitVec 5) (buf : Buf) : Buf := bufOfBytes (operandBytes len buf)

end Sys2Proof.Machine
end

