-- ==== Sys2Proof/Machine/Codec.lean ====
section
/-! DEFINITION. The Frame Codec's two functions (41_frame_codec.md R100, R104 to R107), on the layout of
30_encoding.md R75 and R76. -/

namespace Sys2Proof.Machine

/-- The result of encode: the frame buffer, the frame's length, the error (R100). -/
structure Encoded where
  frame : Buf
  length : BitVec 5
  err : ErrorKind
  deriving DecidableEq, Repr

/-- Frame byte 3 on encode (R76): `((VERSION << 4) OR payload.length)[7:0]`. -/
def versionSizeByte (version : BitVec 4) (len : BitVec 5) : Byte :=
  (version.setWidth 8 <<< 4) ||| len.setWidth 8

/-- The bytes the CRC covers (R75, R78): the five header bytes and the payload. -/
def frameBody (c : Config) (dest : Byte) (len : BitVec 5) (payload : List Byte) (key : Byte) : List Byte :=
  [dest, c.ownLocation, 0x00, versionSizeByte c.version len, key] ++ payload

/-- encode (R100): more than 10 payload bytes is ArraySizeError with no frame; otherwise header, payload, CRC, and a
length of LEN + 6. The destination is not checked (R102). -/
def encodeFrame (c : Config) (dest : Byte) (len : BitVec 5) (buf : Buf) (key : Byte) : Encoded :=
  if 10 < len.toNat then { frame := zeroBuf, length := 0, err := .arraySizeError }
  else
    { frame := bufOfBytes (frameBody c dest len (operandBytes len buf) key
        ++ [crc8 c.crcTable (frameBody c dest len (operandBytes len buf) key)])
      length := len + 6
      err := .noError }

/-- The output of decode (R104). -/
structure ParsedFrame where
  dst : Byte
  src : Byte
  ver : BitVec 4
  size : BitVec 4
  key : Byte
  crc : Byte
  plen : BitVec 5
  payload : Buf
  deriving DecidableEq, Repr

/-- ZERO_FRAME (R104): every field 0. -/
def zeroFrame : ParsedFrame :=
  { dst := 0, src := 0, ver := 0, size := 0, key := 0, crc := 0, plen := 0, payload := zeroBuf }

/-- Header extraction (R106): destination, source, version, size, key; byte 2 is not read (R77); crc, plen and payload
stay 0. -/
def parseHeader (raw : Buf) : ParsedFrame :=
  { zeroFrame with
    dst := cell raw 0
    src := cell raw 1
    ver := (cell raw 3).extractLsb' 4 4
    size := (cell raw 3).extractLsb' 0 4
    key := cell raw 4 }

/-- crc_index = size + 5 (R107), from the size nibble of byte 3. -/
def crcIndex (raw : Buf) : Nat := (parseHeader raw).size.toNat + 5

/-- The whole frame (R107): the header, the CRC byte at crc_index, and the payload raw[5 .. 5+size). -/
def parseBody (raw : Buf) : ParsedFrame :=
  { parseHeader raw with
    crc := cell raw (crcIndex raw)
    plen := (parseHeader raw).size.setWidth 5
    payload := bufOfBytes (cells raw 5 (crcIndex raw)) }

/-- decode of a buffer of delivered length `n` (R104), the checks in the source's order: the sizing check (R105, strict:
a 6-byte buffer is rejected), the size guard (R106), the double-frame check (R107). CRC, key, version and destination
are not checked (R109). -/
def decodeFrame (raw : Buf) (n : Nat) : ParsedFrame × ErrorKind :=
  if n ≤ 6 then (zeroFrame, .sizingError)
  else if 10 < (parseHeader raw).size.toNat then (parseHeader raw, .invalidHeaderError)
  else if crcIndex raw ≠ n - 1 then (parseBody raw, .doubleFrameError)
  else (parseBody raw, .noError)

end Sys2Proof.Machine
end

