-- ==== Sys2Proof/WellFormed.lean ====
section
/-! DEFINITION. Which instructions are commands (30_encoding.md R65). -/

namespace Sys2Proof

/-- LEN is at most the buffer capacity, as CRC8 and DECODE need (R65). -/
abbrev LenInCapacity (len : BitVec 5) : Prop := len.toNat ≤ 16

/-- Length legality (R65): CRC8 and DECODE need LEN <= 16; SEND and ENCODE take every LEN; the others ignore it. -/
def wellFormed : Instr → Bool
  | .receive => true
  | .send _ _ _ => true
  | .rekey _ => true
  | .crc8 len _ => decide (LenInCapacity len)
  | .encode _ _ _ _ => true
  | .decode len _ => decide (LenInCapacity len)
  | .resolve _ => true

/-- The same check as a proposition. -/
abbrev WellFormed (i : Instr) : Prop := wellFormed i = true

end Sys2Proof
end

