-- ==== Sys2Proof/Decode.lean ====
section
/-! DEFINITION. The command port's bits, the decoder (30_encoding.md R61 to R66), and after it the encoder (R69). -/

namespace Sys2Proof

/-- The bundle on the port as 165 bits, in the order of R62's table: CMD at 7..0, DEST at 15..8, OKEY at 23..16, RAW at
31..24, LEN at 36..32, BUF[i] at 44+8i..37+8i. The spec gives the fields' widths and no positions but CMD's own bits:
DESIGN CHOICE (log entry 4). Every 165-bit value is a bundle. -/
def bundleOfBits (w : BitVec 165) : Bundle :=
  { cmd := w.extractLsb' 0 8
    dest := w.extractLsb' 8 8
    okey := w.extractLsb' 16 8
    raw := w.extractLsb' 24 8
    len := w.extractLsb' 32 5
    buf := Vector.ofFn fun i => w.extractLsb' (37 + 8 * i.val) 8 }

/-- BUF's cells as one number, cell 0 lowest. -/
def bufToNat (b : Buf) : Nat := b.toList.foldr (fun cell rest => cell.toNat + 2 ^ 8 * rest) 0

/-- The bits of a bundle: the inverse of `bundleOfBits`. -/
def bundleToBits (b : Bundle) : BitVec 165 :=
  BitVec.ofNat 165 (b.cmd.toNat + 2 ^ 8 * b.dest.toNat + 2 ^ 16 * b.okey.toNat + 2 ^ 24 * b.raw.toNat
    + 2 ^ 32 * b.len.toNat + 2 ^ 37 * bufToNat b.buf)

/-- OPC = CMD[3:0] (R61). -/
def opcodeOf (cmd : Byte) : BitVec 4 := cmd.extractLsb' 0 4

/-- CMD[7:4], reserved, must be 0 (R61). -/
def reservedOf (cmd : Byte) : BitVec 4 := cmd.extractLsb' 4 4

/-- Why a bundle spells no command (R66). -/
inductive DecodeReject where
  /-- CMD[7:4] != 0. -/
  | reservedBitsSet
  /-- OPC is 0x0 or in 0x8 to 0xF. -/
  | reservedOpcode
  /-- OPC is CRC8 or DECODE with LEN > 16. -/
  | lengthOverCapacity
  deriving DecidableEq, Repr

/-- The opcode map (R63) and the operand fields (R62), total, rejecting by name (R66). -/
def decodeBundle (b : Bundle) : Except DecodeReject Instr :=
  if reservedOf b.cmd ≠ 0 then .error .reservedBitsSet
  else match (opcodeOf b.cmd).toNat with
    | 1 => .ok .receive
    | 2 => .ok (.send b.dest b.len b.buf)
    | 3 => .ok (.rekey b.okey)
    | 4 => if LenInCapacity b.len then .ok (.crc8 b.len b.buf) else .error .lengthOverCapacity
    | 5 => .ok (.encode b.dest b.okey b.len b.buf)
    | 6 => if LenInCapacity b.len then .ok (.decode b.len b.buf) else .error .lengthOverCapacity
    | 7 => .ok (.resolve b.raw)
    | _ => .error .reservedOpcode

/-- The decoder on the port's bits. -/
def decodeBits (w : BitVec 165) : Except DecodeReject Instr := decodeBundle (bundleOfBits w)

/-- The port's bits for an instruction numbered as spec/opcode_table.json numbers it: its `nbits` bits are `w`'s, and
every bit above them is 0. -/
def portBits (nbits w : Nat) : BitVec 165 := BitVec.ofNat 165 (w % 2 ^ nbits)

/-- What the decoder reads from a table word; none where it refuses. -/
def decodeTableWord (nbits w : Nat) : Option Instr :=
  match decodeBits (portBits nbits w) with
  | .ok i => some i
  | .error _ => none

/-- A bundle with a command word and every other field 0. -/
def bareBundle (cmd : Byte) : Bundle :=
  { cmd := cmd, dest := 0, okey := 0, raw := 0, len := 0, buf := Vector.replicate 16 0 }

/-- The encoder (R63, R69): the command's word, its own fields, and 0 in every field it does not read. -/
def encodeBundle : Instr → Bundle
  | .receive => bareBundle 0x01
  | .send dest len buf => { bareBundle 0x02 with dest := dest, len := len, buf := buf }
  | .rekey newKey => { bareBundle 0x03 with okey := newKey }
  | .crc8 len buf => { bareBundle 0x04 with len := len, buf := buf }
  | .encode dest key len buf => { bareBundle 0x05 with dest := dest, okey := key, len := len, buf := buf }
  | .decode len buf => { bareBundle 0x06 with len := len, buf := buf }
  | .resolve raw => { bareBundle 0x07 with raw := raw }

/-- The encoder to the port's bits. -/
def encodeBits (i : Instr) : BitVec 165 := bundleToBits (encodeBundle i)

end Sys2Proof
end

