-- ==== Sys2Proof/Machine/Ops.lean ====
section
/-! DEFINITION. The named operations on the registers, and what the block shows at its boundary. The block has no traps
(60_exceptions.md R162): the shared way a command ends is `respond`, and an error is a field of the response. -/

namespace Sys2Proof.Machine

/-- KEY <- v (42_session.md R146). -/
def setKey (v : Byte) (s : State) : State := { s with key := v }

/-- FSM <- f (R26). -/
def setFsm (f : Fsm) (s : State) : State := { s with fsm := f }

/-- TXBUF <- frame; TXLEN <- length (R27). -/
def loadLatch (frame : Buf) (length : BitVec 5) (s : State) : State := { s with txbuf := frame, txlen := length }

/-- SENDST <- e (R28). -/
def captureStatus (e : ErrorKind) (s : State) : State := { s with sendst := e }

/-- TXBUF <- all 0x00; TXLEN <- 0; SENDST <- NoError (R27, R28): no frame survives its SEND. -/
def clearLatch (s : State) : State := { s with txbuf := zeroBuf, txlen := 0, sendst := .noError }

/-- respond(r) (00_scope.md R19): RESP <- r. -/
def respond (r : Response) (s : State) : State := { s with resp := r }

/-- issue q (00_scope.md R19): the request is placed, and joins the run's sequence of requests (R195). -/
def issue (q : Request) (s : State) : State := { s with requests := s.requests ++ [q] }

/-- The command port holds `p`. -/
def setPort (p : Option Bundle) (s : State) : State := { s with port := p }

/-- The environment's moves from the next step on. -/
def setEnv (e : List EnvMove) (s : State) : State := { s with env := e }

/-- The illegal response (30_encoding.md R73): TAG = ILLEGAL, OP = OPC, every other field 0. -/
def illegalResponse (opc : BitVec 4) : Response := { resetResponse with tag := .illegal, op := opc }

/-- Refuse a bundle that spells no command (R66, R166): RESP <- the illegal response, the refusal mark is set for the rest
of the run, nothing else changes, no request is issued (log entries 5, 6). -/
def refuseBundle (c : IllegalCommand) (s : State) : State :=
  { s with resp := illegalResponse (opcodeOf c.cmd), refusals := s.refusals ++ [c] }

/-- The reset step on the block (R180, R181): every register of R24 to its reset value; the run's records start empty;
the configuration, the host's held bundle and the environment are not the block's to change (log entries 7, 11). -/
def resetBlock (s : State) : State :=
  { s with key := 0x00, fsm := .idle, txbuf := zeroBuf, txlen := 0, sendst := .noError, resp := resetResponse,
           requests := [], refusals := [] }

/-- A command is performed only while the port is ready, FSM = IDLE (R60, R124); otherwise the block takes no step for
it and nothing changes (log entry 13). -/
def whenReady (act : State → Outcome) (s : State) : Outcome := if s.fsm = .idle then act s else .next s

/-- The command port is ready exactly when FSM = IDLE (R60). -/
def portReady (s : State) : Bool := decide (s.fsm = .idle)

/-- The outstanding transport request, named by FSM (R26, R80). -/
def outstanding (s : State) : Option Request :=
  match s.fsm with
  | .idle => none
  | .rxWait => some (.rx 16)
  | .txWait => some (.tx (s.txbuf.toList.take s.txlen.toNat) s.txlen)
  | .restoreWait => some .crx

end Sys2Proof.Machine
end

