-- ==== Sys2Proof/Machine/Resolver.lean ====
section
/-! DEFINITION. The Address Resolver's function (43_address_resolver.md R150). -/

namespace Sys2Proof.Machine

/-- resolve (R150): identity below NUM_MODULES (unsigned), else INVALID_LOCATION. -/
def resolve (c : Config) (raw : Byte) : Byte := if raw.toNat < c.numModules then raw else c.invalidLocation

end Sys2Proof.Machine
end

