-- ==== Sys2Proof/Machine/Flags.lean ====
section
/-! DEFINITION. The block has no flags register (10_state.md R23); what the source calls flags are response fields. Here are
their codes, and how AVAIL, VALID and ERR come about (30_encoding.md R79, R84, R85; 42_session.md R131 to R137). -/

namespace Sys2Proof.Machine

/-- The 4-bit code of an ErrorKind: its position in the source's list (R79). -/
def ErrorKind.code : ErrorKind → BitVec 4
  | .noError => 0
  | .crcError => 1
  | .invalidHeaderError => 2
  | .arraySizeError => 3
  | .doubleFrameError => 4
  | .sizingError => 5
  | .keyError => 6
  | .hwError => 7
  | .timeoutError => 8
  | .initError => 9

/-- The 2-bit code of TAG (R70). -/
def Tag.code : Tag → BitVec 2
  | .none => 0
  | .done => 1
  | .illegal => 2

/-- The 2-bit code of FSM (10_state.md R26). -/
def Fsm.code : Fsm → BitVec 2
  | .idle => 0
  | .rxWait => 1
  | .txWait => 2
  | .restoreWait => 3

/-- The 2-bit receive status (R81). -/
def rxStatusOfCode (c : BitVec 2) : RxStatus :=
  match c.toNat with
  | 0 => .noData
  | 1 => .ok
  | 2 => .hwError
  | _ => .timeout

/-- The 2-bit send status (R82). -/
def txStatusOfCode (c : BitVec 2) : TxStatus :=
  match c.toNat with
  | 0 => .ok
  | 1 => .hwError
  | 2 => .timeout
  | _ => .reserved

/-- A send status as an ErrorKind (R84); none for the reserved code. -/
def TxStatus.error? : TxStatus → Option ErrorKind
  | .ok => some .noError
  | .hwError => some .hwError
  | .timeout => some .timeoutError
  | .reserved => none

/-- The response of a completed command with opcode `op` and error `e`, every other field 0 (R70). -/
def doneResponse (op : BitVec 4) (e : ErrorKind) : Response := { resetResponse with tag := .done, op := op, err := e }

/-- First detected wins (60_exceptions.md R161): an error already found is kept. -/
def firstError (found later : ErrorKind) : ErrorKind := if found = .noError then later else found

/-- The CRC check (R136): crc8(raw[0 .. size + 5)) equals the frame's CRC byte. -/
def crcPasses (t : CrcTable) (raw : Buf) (pf : ParsedFrame) : Bool :=
  crc8 t (cells raw 0 (pf.size.toNat + 5)) == pf.crc

/-- VALID and ERR of a frame that decode let through with `e` (R135 to R137): the CRC check, then, only if it passed, the
key check; a failure clears VALID and is the reported error unless the frame was already a double frame. -/
def frameVerdict (t : CrcTable) (key : Byte) (raw : Buf) (pf : ParsedFrame) (e : ErrorKind) : Bool × ErrorKind :=
  if crcPasses t raw pf = false then (false, firstError e .crcError)
  else if pf.key ≠ key then (false, firstError e .keyError)
  else (true, e)

/-- The response with AVAIL = 1, VALID = 0, an error, and every message field 0 (R133, R134). -/
def failedReceive (e : ErrorKind) : Response := { doneResponse 0x1 e with avail := true }

/-- The response to a frame that reached the CRC check (R131, R138): addresses resolved and payload reported whether it is
valid or not. -/
def messageResponse (c : Config) (key : Byte) (raw : Buf) (pf : ParsedFrame) (e : ErrorKind) : Response :=
  { doneResponse 0x1 (frameVerdict c.crcTable key raw pf e).2 with
    avail := true
    valid := (frameVerdict c.crcTable key raw pf e).1
    dst := resolve c pf.dst
    src := resolve c pf.src
    len := pf.plen
    buf := pf.payload }

/-- receive_result for a delivered buffer of at most 16 bytes (R131): decode; a structural error aborts (R134); otherwise
the checks run. -/
def bufferResult (c : Config) (key : Byte) (bytes : List Byte) : Response :=
  match decodeFrame (bufOfBytes bytes) bytes.length with
  | (_, .sizingError) => failedReceive .sizingError
  | (_, .invalidHeaderError) => failedReceive .invalidHeaderError
  | (pf, e) => messageResponse c key (bufOfBytes bytes) pf e

/-- receive_result (R131 to R138). A delivered buffer of more than 16 bytes is a fault (R43). -/
def receiveResult (c : Config) (key : Byte) (status : RxStatus) (bytes : List Byte) : Except Fault Response :=
  match status with
  | .noData => .ok (doneResponse 0x1 .noError)
  | .hwError => .ok (failedReceive .hwError)
  | .timeout => .ok (failedReceive .timeoutError)
  | .ok => if 16 < bytes.length then .error .rxLengthOverCapacity else .ok (bufferResult c key bytes)

end Sys2Proof.Machine
end

