-- ==== Sys2Proof/Machine/Leaf.lean ====
section
/-! DEFINITION. The four commands that expose the leaf components alone: CRC8 (40_crc_engine.md), ENCODE and DECODE
(41_frame_codec.md), RESOLVE (43_address_resolver.md). Each completes in the step that accepts it and writes only RESP. -/

namespace Sys2Proof.Machine

/-- CRC8 (R95): CRC = crc8(BUF[0 .. LEN)); LEN > 16 spells no command (R66; log entry 14). -/
def execCrc8 (len : BitVec 5) (buf : Buf) (s : State) : Outcome :=
  whenReady (fun s =>
    if 16 < len.toNat then .next (refuseBundle { cmd := 0x04, len := len } s)
    else .next (respond { doneResponse 0x4 .noError with crc := crc8 s.cfg.crcTable (operandBytes len buf) } s)) s

/-- The response of ENCODE (R101). -/
def encodeResponse (e : Encoded) : Response := { doneResponse 0x5 e.err with len := e.length, buf := e.frame }

/-- ENCODE (R101): encode(DEST, LEN, BUF, OKEY); the key is the bundle's, KEY is not read. -/
def execEncode (dest key : Byte) (len : BitVec 5) (buf : Buf) (s : State) : Outcome :=
  whenReady (fun s => .next (respond (encodeResponse (encodeFrame s.cfg dest len buf key)) s)) s

/-- The response of DECODE (R113): the raw destination and source, not resolved. -/
def decodeResponse (r : ParsedFrame × ErrorKind) : Response :=
  { doneResponse 0x6 r.2 with
    dst := r.1.dst
    src := r.1.src
    ver := r.1.ver
    size := r.1.size
    fkey := r.1.key
    crc := r.1.crc
    len := r.1.plen
    buf := r.1.payload }

/-- DECODE (R113): decode(BUF, LEN); LEN > 16 spells no command (R66; log entry 14). -/
def execDecode (len : BitVec 5) (buf : Buf) (s : State) : Outcome :=
  whenReady (fun s =>
    if 16 < len.toNat then .next (refuseBundle { cmd := 0x06, len := len } s)
    else .next (respond (decodeResponse (decodeFrame (operandBuf len buf) len.toNat)) s)) s

/-- RESOLVE (R152): LOC = resolve(RAW). -/
def execResolve (raw : Byte) (s : State) : Outcome :=
  whenReady (fun s => .next (respond { doneResponse 0x7 .noError with loc := resolve s.cfg raw } s)) s

end Sys2Proof.Machine
end

