-- ==== Sys2Proof/Machine/Session.lean ====
section
/-! DEFINITION. The Message Session: RECEIVE, SEND, REKEY, and the steps that consume the transport's answers
(42_session.md). -/

namespace Sys2Proof.Machine

/-- RECEIVE (R130): accepted, it issues its one poll and waits; RESP is written when the answer comes (R121). -/
def execReceive (s : State) : Outcome :=
  whenReady (fun s => .next (setFsm .rxWait (issue (.rx 16) s))) s

/-- SEND (R140): more than 10 payload bytes completes at once with ArraySizeError and no transport call (R141); otherwise
the frame is encoded with KEY (R142), latched and handed to the transport (R143). -/
def execSend (dest : Byte) (len : BitVec 5) (buf : Buf) (s : State) : Outcome :=
  whenReady (fun s =>
    if 10 < len.toNat then .next (respond (doneResponse 0x2 .arraySizeError) s)
    else
      let e := encodeFrame s.cfg dest len buf s.key
      .next (setFsm .txWait (issue (.tx (cells e.frame 0 e.length.toNat) e.length) (loadLatch e.frame e.length s)))) s

/-- REKEY (R146): KEY <- OKEY, unconditionally (R147). -/
def execRekey (newKey : Byte) (s : State) : Outcome :=
  whenReady (fun s => .next (respond (doneResponse 0x3 .noError) (setKey newKey s))) s

/-- The RX_WAIT step (R121): respond with receive_result, back to IDLE; KEY is read, not written. -/
def finishReceive (status : RxStatus) (bytes : List Byte) (s : State) : Outcome :=
  match receiveResult s.cfg s.key status bytes with
  | .ok r => .next (setFsm .idle (respond r s))
  | .error f => .fault f

/-- The TX_WAIT step (R122, R143): the answer's ErrorKind into SENDST, and, whatever it is, ask for continuous-receive mode
(R144); the reserved status breaks the contract (R82). -/
def captureSend (status : TxStatus) (s : State) : Outcome :=
  match status.error? with
  | some e => .next (setFsm .restoreWait (issue .crx (captureStatus e s)))
  | none => .fault .txStatusReserved

/-- SEND's final error (R144): InitError if the restore failed, whatever SENDST holds; else SENDST. -/
def sendError (ok : Bool) (captured : ErrorKind) : ErrorKind := if ok then captured else .initError

/-- The RESTORE_WAIT step (R123, R144): respond, clear the latches, back to IDLE. -/
def finishSend (ok : Bool) (s : State) : Outcome :=
  .next (setFsm .idle (clearLatch (respond (doneResponse 0x2 (sendError ok s.sendst)) s)))

/-- The step that consumes a transport answer: it must be the outstanding request's, of its kind (R86, R124). -/
def consumeAnswer (a : Answer) (s : State) : Outcome :=
  match s.fsm, a with
  | .rxWait, .rx status bytes => finishReceive status bytes s
  | .txWait, .tx status => captureSend status s
  | .restoreWait, .crx ok => finishSend ok s
  | _, _ => .fault .unexpectedAnswer

end Sys2Proof.Machine
end

