-- ==== Sys2Proof/Machine/Dispatch.lean ====
section
/-! DEFINITION. One arm per command (30_encoding.md R63; 42_session.md R120). -/

namespace Sys2Proof.Machine

def exec (i : Instr) (s : State) : Host.Outcome State Fault Refusal :=
  match i with
  | .receive => Sys2Proof.Machine.execReceive s
  | .send dest len buf => Sys2Proof.Machine.execSend dest len buf s
  | .rekey newKey => Sys2Proof.Machine.execRekey newKey s
  | .crc8 len buf => Sys2Proof.Machine.execCrc8 len buf s
  | .encode dest key len buf => Sys2Proof.Machine.execEncode dest key len buf s
  | .decode len buf => Sys2Proof.Machine.execDecode len buf s
  | .resolve raw => Sys2Proof.Machine.execResolve raw s

end Sys2Proof.Machine
end

