-- ==== Sys2Proof/Machine/Cycle.lean ====
section
/-! DEFINITION. One step of the block with what the environment does in it (30_encoding.md R60; 42_session.md R120 to R124;
60_exceptions.md R168, R176; 70_reset_and_hazards.md R181). -/

namespace Sys2Proof.Machine

/-- What the port holds in this step (R60): the host holds a presented bundle unchanged until it is accepted; it may
present one when it holds none. Driving another bundle over a held one is the breach that has no move (R176). -/
def portAfter (held driven : Option Bundle) : Option (Option Bundle) :=
  match held, driven with
  | p, none => some p
  | none, some b => some (some b)
  | some a, some b => if a = b then some (some a) else none

/-- A held bundle is accepted when FSM = IDLE (R60, R120): it leaves the port, and the command it spells is performed, or it
is refused (R66). With no bundle, or while the port is busy, nothing changes (R124). -/
def acceptBundle (s : State) : Outcome :=
  if s.fsm = .idle then
    match s.port with
    | none => .next s
    | some b =>
      match decodeBundle b with
      | .ok i => exec i (setPort none s)
      | .error _ => .next (refuseBundle { cmd := b.cmd, len := b.len } (setPort none s))
  else .next s

/-- The block's step once the port is settled: reset wins over a bundle and an answer (R168, R181); an answer is consumed
before a bundle could be accepted (log entry 10); else a bundle may be accepted. -/
def blockStep (m : EnvMove) (s : State) : Outcome :=
  if m.reset then .next (resetBlock s)
  else match m.answer with
    | some a => consumeAnswer a s
    | none => acceptBundle s

/-- One step under the environment's move `m`. -/
def cycle (m : EnvMove) (s : State) : Outcome :=
  match portAfter s.port m.present with
  | none => .refused .heldBundleChanged
  | some p => blockStep m (setPort p s)

/-- The environment's next move: nothing once its list is used up. -/
def nextMove (s : State) : EnvMove := s.env.headD quiet

/-- The state with that move taken from the list. -/
def takeMove (s : State) : State := setEnv s.env.tail s

/-- The bundle an instruction of the opcode table puts on the port: its `nbits` bits are `w`'s, every other bit 0. -/
def tableBundle (nbits w : Nat) : Bundle := bundleOfBits (portBits nbits w)

/-- The host presents `b` so that the very next step accepts it: the bundle on the port, the port ready, and a step in which
the environment does nothing else (log entry 15). -/
def offerBundle (b : Bundle) (s : State) : State :=
  setPort (some b) (setFsm .idle (setEnv (quiet :: s.env) s))

end Sys2Proof.Machine
end

