-- ==== Sys2Proof/Machine/Step.lean ====
section
/-! DEFINITION. The step function: one accepted bundle, consumed answer or reset, or one wait (70_reset_and_hazards.md R193). -/

namespace Sys2Proof.Machine

/-- One step: the environment's next move, and what the block does with it. -/
def step (s : State) : Host.Outcome State Fault Refusal := cycle (nextMove s) (takeMove s)

/-- `s` with an opcode-table instruction presented on the command port, where the next step takes it from. -/
def State.withFetchWord (s : State) (nbits w : Nat) : State := offerBundle (tableBundle nbits w) s

end Sys2Proof.Machine
end

