-- ==== Sys2Proof/Safety.lean ====
section
/-! DEFINITION. The terms claims are stated in: what a step's environment does, the machine's invariant, and when a run is
complete. -/

namespace Sys2Proof.Machine

/-- In this step the block accepts the bundle `b` (R60, R120): FSM = IDLE, the host presents or holds `b`, and there is
neither a reset nor an answer. -/
abbrev Accepts (s : State) (b : Bundle) : Prop :=
  s.fsm = .idle ∧ portAfter s.port (nextMove s).present = some (some b) ∧
    (nextMove s).reset = false ∧ (nextMove s).answer = none

/-- In this step the transport delivers `a`, there is no reset, and the port holds `p` (R124, R168). -/
abbrev Delivers (s : State) (a : Answer) (p : Option Bundle) : Prop :=
  (nextMove s).reset = false ∧ (nextMove s).answer = some a ∧ portAfter s.port (nextMove s).present = some p

/-- In this step nothing reaches the block, and the port holds `p`: no reset, no answer (R124). -/
abbrev NothingDelivered (s : State) (p : Option Bundle) : Prop :=
  (nextMove s).reset = false ∧ (nextMove s).answer = none ∧ portAfter s.port (nextMove s).present = some p

/-- In this step reset is asserted, and the port holds `p` (R181). -/
abbrev ResetAsserted (s : State) (p : Option Bundle) : Prop :=
  (nextMove s).reset = true ∧ portAfter s.port (nextMove s).present = some p

/-- The state the block acts on in a step: the environment's move taken, the port holding `p`. -/
def settled (s : State) (p : Option Bundle) : State := { s with env := s.env.tail, port := p }

/-- A move in which the transport answers and nothing else happens. -/
def answering (a : Answer) : EnvMove := { reset := false, present := none, answer := some a }

/-- A move in which the host drives a bundle and nothing else happens. -/
def presenting (b : Bundle) : EnvMove := { reset := false, present := some b, answer := none }

/-- The size nibble of a buffer's byte 3 (R76). -/
def sizeNibble (raw : Buf) : Nat := ((cell raw 3).extractLsb' 0 4).toNat

/-- The block holds no frame and no captured status (R33). -/
abbrev LatchEmpty (s : State) : Prop := s.txbuf = zeroBuf ∧ s.txlen = 0 ∧ s.sendst = .noError

/-- TXBUF and TXLEN hold a frame encoded under the current KEY (R27, R142): no REKEY can come between (R55). -/
def FrameInLatch (s : State) : Prop :=
  ∃ (dest : Byte) (len : BitVec 5) (buf : Buf), len.toNat ≤ 10 ∧
    encodeFrame s.cfg dest len buf s.key = { frame := s.txbuf, length := s.txlen, err := .noError }

/-- What SENDST may hold (R28). -/
abbrev SendStatus (e : ErrorKind) : Prop := e = .noError ∨ e = .hwError ∨ e = .timeoutError

/-- The latches in each controller state (R27, R28, R33). -/
def LatchInv (s : State) : Prop :=
  match s.fsm with
  | .idle => LatchEmpty s
  | .rxWait => LatchEmpty s
  | .txWait => FrameInLatch s ∧ s.sendst = .noError
  | .restoreWait => FrameInLatch s ∧ SendStatus s.sendst

/-- A sequence of finished transport exchanges (R53): a poll of at most 16 bytes, or a frame of 6 to 16 bytes handed over
and then the request for continuous-receive mode. -/
inductive Exchanges : List Request → Prop where
  | start : Exchanges []
  | poll (l : List Request) : Exchanges l → Exchanges (l ++ [.rx 16])
  | send (l : List Request) (bytes : List Byte) (n : BitVec 5) : Exchanges l → n.toNat = bytes.length →
      6 ≤ n.toNat → n.toNat ≤ 16 → Exchanges (l ++ [.tx bytes n, .crx])

/-- The run's requests in each controller state (R26, R53): finished exchanges, then the outstanding request, if any. -/
def TraceInv (s : State) : Prop :=
  match s.fsm with
  | .idle => Exchanges s.requests
  | .rxWait => ∃ l, Exchanges l ∧ s.requests = l ++ [.rx 16]
  | .txWait => ∃ l, Exchanges l ∧ s.requests = l ++ [.tx (cells s.txbuf 0 s.txlen.toNat) s.txlen]
  | .restoreWait => ∃ l, Exchanges l ∧ s.requests = l ++ [.tx (cells s.txbuf 0 s.txlen.toNat) s.txlen, .crx]

/-- Cells at index >= LEN are 0x00 (R70). -/
def TailZero (len : BitVec 5) (buf : Buf) : Prop := ∀ i, len.toNat ≤ i → cell buf i = 0

/-- A location the block may report (R151): valid, or INVALID_LOCATION. -/
def Located (c : Config) (b : Byte) : Prop := b.toNat < c.numModules ∨ b = c.invalidLocation

/-- The responses of RECEIVE (R70, R139): the fields it writes, its errors, and what VALID and AVAIL go with. -/
def ReceiveForm (c : Config) (r : Response) : Prop :=
  r = { doneResponse 0x1 r.err with
        avail := r.avail, valid := r.valid, dst := r.dst, src := r.src, len := r.len, buf := r.buf } ∧
  r.err ∈ [ErrorKind.noError, .hwError, .timeoutError, .sizingError, .invalidHeaderError, .doubleFrameError, .crcError,
    .keyError] ∧
  r.len.toNat ≤ 10 ∧
  (r.valid = true → r.avail = true ∧ (r.err = .noError ∨ r.err = .doubleFrameError)) ∧
  (r.avail = false → r = doneResponse 0x1 .noError) ∧
  (r.avail = true → r.err = .noError → r.valid = true) ∧
  Located c r.dst ∧ Located c r.src

/-- The responses of DECODE (R70, R113). -/
def DecodeForm (r : Response) : Prop :=
  r = { doneResponse 0x6 r.err with
        dst := r.dst, src := r.src, ver := r.ver, size := r.size, fkey := r.fkey, crc := r.crc, len := r.len,
        buf := r.buf } ∧
  r.err ∈ [ErrorKind.noError, .sizingError, .invalidHeaderError, .doubleFrameError] ∧ r.len.toNat ≤ 10

/-- What RESP can hold (R70, R72, R73, R160): the reset response, an illegal response, or a completed command's response
with only that command's fields written and only that command's errors. -/
def RespInv (c : Config) (r : Response) : Prop :=
  match r.tag with
  | .none => r = resetResponse
  | .illegal => r = illegalResponse r.op
  | .done => TailZero r.len r.buf ∧
    match r.op.toNat with
    | 1 => ReceiveForm c r
    | 2 => r = doneResponse 0x2 r.err ∧
        r.err ∈ [ErrorKind.noError, .arraySizeError, .hwError, .timeoutError, .initError]
    | 3 => r = doneResponse 0x3 .noError
    | 4 => r = { doneResponse 0x4 .noError with crc := r.crc }
    | 5 => r = doneResponse 0x5 .arraySizeError ∨
        (r = { doneResponse 0x5 .noError with len := r.len, buf := r.buf } ∧ 6 ≤ r.len.toNat ∧ r.len.toNat ≤ 16)
    | 6 => DecodeForm r
    | 7 => r = { doneResponse 0x7 .noError with loc := r.loc } ∧ Located c r.loc
    | _ => False

/-- The machine's invariant: legal configuration (R8, R9), latches, requests and RESP as the rules leave them. -/
def Inv (s : State) : Prop := s.cfg.Legal ∧ LatchInv s ∧ TraceInv s ∧ RespInv s.cfg s.resp

/-- The host presents no further bundle (R195). -/
abbrev HostDone (s : State) : Prop := s.port = none ∧ ∀ m ∈ s.env, m.present = none

/-- A run is complete here (R195): IDLE, no request outstanding, no refusal mark, nothing more presented. (A run with a
fault has no state to be complete in.) -/
abbrev Complete (s : State) : Prop := s.fsm = .idle ∧ outstanding s = none ∧ s.refusals = [] ∧ HostDone s

/-- A run is safe when it reaches a next state without a refusal mark (R165, R166): neither a broken contract nor a bundle
that spells no command. -/
abbrev SafeOutcome : Outcome → Prop
  | .next s => s.refusals = []
  | .fault _ => False
  | .refused _ => False

end Sys2Proof.Machine
end

