-- ==== Sys2Proof/Certificates/Slice0/Obligations.lean ====
section
/-! DEFINITION. The statements for the provers. Next states are written out as record updates, so a statement that says what
an instruction does also says what it leaves alone. -/

open Sys2Proof Sys2Proof.Machine

/-! ## Encoding -/

/-- Decoding the port bits of an encoded well-formed command gives the command back, with every operand at every value
(30_encoding.md R61 to R65; the bits' positions are the model's choice, log entry 4). -/
def Obligations.DecodingInvertsEncoding : Prop :=
  ∀ i : Instr, WellFormed i → decodeBits (encodeBits i) = .ok i

/-- The port's bits and the bundle's fields say the same, in both directions: no bit is dropped and none is read twice
(the positions are the model's choice, log entry 4). -/
def Obligations.PortBitsAreTheBundle : Prop :=
  (∀ b : Bundle, bundleOfBits (bundleToBits b) = b) ∧ (∀ w : BitVec 165, bundleToBits (bundleOfBits w) = w)

/-- R63: the opcode map, row by row, the reserved rows among them. -/
def Obligations.OpcodeMapRowByRow : Prop :=
  ∀ b : Bundle,
    (b.cmd = 0x01 → decodeBundle b = .ok .receive) ∧
    (b.cmd = 0x02 → decodeBundle b = .ok (.send b.dest b.len b.buf)) ∧
    (b.cmd = 0x03 → decodeBundle b = .ok (.rekey b.okey)) ∧
    (b.cmd = 0x04 → b.len.toNat ≤ 16 → decodeBundle b = .ok (.crc8 b.len b.buf)) ∧
    (b.cmd = 0x05 → decodeBundle b = .ok (.encode b.dest b.okey b.len b.buf)) ∧
    (b.cmd = 0x06 → b.len.toNat ≤ 16 → decodeBundle b = .ok (.decode b.len b.buf)) ∧
    (b.cmd = 0x07 → decodeBundle b = .ok (.resolve b.raw)) ∧
    (b.cmd = 0x00 → ∃ r, decodeBundle b = .error r) ∧
    (0x08 ≤ b.cmd.toNat → b.cmd.toNat ≤ 0x0F → ∃ r, decodeBundle b = .error r)

/-- R66, first sentence: exactly which bundles spell no command. -/
def Obligations.BundlesThatSpellNoCommand : Prop :=
  ∀ b : Bundle, (∃ r, decodeBundle b = .error r) ↔
    (b.cmd.toNat / 16 ≠ 0 ∨ b.cmd.toNat % 16 = 0 ∨ 8 ≤ b.cmd.toNat % 16 ∨
      ((b.cmd.toNat % 16 = 4 ∨ b.cmd.toNat % 16 = 6) ∧ 16 < b.len.toNat))

/-- R65: what the decoder lets through is well-formed: CRC8 and DECODE have LEN <= 16. -/
def Obligations.DecodedCommandsAreWellFormed : Prop :=
  ∀ (b : Bundle) (i : Instr), decodeBundle b = .ok i → WellFormed i

/-- R62: a command reads only its own fields; two bundles with the same CMD that agree on the fields that CMD's command reads
are read alike, whatever the others hold. -/
def Obligations.UnreadFieldsDoNotMatter : Prop :=
  ∀ b b' : Bundle, b.cmd = b'.cmd →
    (opcodeOf b.cmd = 2 ∨ opcodeOf b.cmd = 5 → b.dest = b'.dest) →
    (opcodeOf b.cmd = 3 ∨ opcodeOf b.cmd = 5 → b.okey = b'.okey) →
    (opcodeOf b.cmd = 7 → b.raw = b'.raw) →
    (opcodeOf b.cmd = 2 ∨ opcodeOf b.cmd = 4 ∨ opcodeOf b.cmd = 5 ∨ opcodeOf b.cmd = 6 → b.len = b'.len ∧ b.buf = b'.buf) →
    decodeBundle b = decodeBundle b'

/-- R191 (and R44 for the operand buffer): the host's cells at index >= LEN read 0x00 and influence no command. -/
def Obligations.OperandCellsPastLenAreIgnored : Prop :=
  (∀ (len : BitVec 5) (buf : Buf) (i : Nat), len.toNat ≤ i → cell (operandBuf len buf) i = 0) ∧
  ∀ (len : BitVec 5) (buf buf' : Buf), (∀ i, i < len.toNat → cell buf i = cell buf' i) →
    ∀ (dest key : Byte) (s : State),
      exec (.send dest len buf) s = exec (.send dest len buf') s ∧
      exec (.crc8 len buf) s = exec (.crc8 len buf') s ∧
      exec (.encode dest key len buf) s = exec (.encode dest key len buf') s ∧
      exec (.decode len buf) s = exec (.decode len buf') s

/-- Words written out from R61 to R63 (CMD at bits 7..0, then the fields in R62's order, log entry 4) decode to the commands
they stand for, and reserved words to none. -/
def Obligations.WrittenOutWordsDecode : Prop :=
  decodeTableWord 8 0x01 = some .receive ∧
  decodeTableWord 16 0x0202 = some (.send 0x02 0 zeroBuf) ∧
  decodeTableWord 24 0x090003 = some (.rekey 0x09) ∧
  decodeTableWord 168 (0x04 + 0x01 * 2 ^ 32 + 0x80 * 2 ^ 37) = some (.crc8 1 (bufOfBytes [0x80])) ∧
  decodeTableWord 24 0x05FF05 = some (.encode 0xFF 0x05 0 zeroBuf) ∧
  decodeTableWord 40 0x1000000006 = some (.decode 16 zeroBuf) ∧
  decodeTableWord 32 0xFF000007 = some (.resolve 0xFF) ∧
  decodeTableWord 8 0x00 = none ∧ decodeTableWord 8 0x08 = none ∧ decodeTableWord 8 0x11 = none ∧
  decodeTableWord 40 0x1100000006 = none

/-- R79, R70, R26: the numeric codes of ERR, TAG and FSM. -/
def Obligations.NumericCodes : Prop :=
  [ErrorKind.noError, .crcError, .invalidHeaderError, .arraySizeError, .doubleFrameError, .sizingError, .keyError, .hwError,
    .timeoutError, .initError].map ErrorKind.code = [0, 1, 2, 3, 4, 5, 6, 7, 8, 9] ∧
  (∀ e : ErrorKind, e.code.toNat ≤ 9) ∧
  [Tag.none, .done, .illegal].map Tag.code = [0, 1, 2] ∧
  [Fsm.idle, .rxWait, .txWait, .restoreWait].map Fsm.code = [0, 1, 2, 3]

/-! ## The CRC Engine -/

/-- R90: crc8 starts at 0, and each byte in order takes acc to CRC_TABLE[acc XOR b]. -/
def Obligations.Crc8ReadsTheTablePerByte : Prop :=
  ∀ (t : CrcTable), crc8 t [] = 0x00 ∧
    ∀ (s : List Byte) (b : Byte), crc8 t (s ++ [b]) = romRead t (crc8 t s ^^^ b)

/-- R91 (the model's default table, whose bit convention the spec marks as general knowledge, log entry 2): it is the one the
printed loop generates, and its check value over "123456789" is 0xF4. -/
def Obligations.DefaultTableIsGenerated : Prop :=
  (∀ i : Byte, romRead defaultCrcTable i = generatedCrcEntry i) ∧
  crc8 defaultCrcTable [0x31, 0x32, 0x33, 0x34, 0x35, 0x36, 0x37, 0x38, 0x39] = 0xF4

/-- R93, for every table with a zero at index 0, the default one (log entry 2) among them: leading zeros do not count, and a
sequence with its own checksum appended has checksum 0. -/
def Obligations.ChecksummedSequenceIsZero : Prop :=
  romRead defaultCrcTable 0 = 0 ∧
  ∀ t : CrcTable, romRead t 0 = 0 → ∀ s : List Byte,
    crc8 t (0x00 :: s) = crc8 t s ∧ crc8 t (s ++ [crc8 t s]) = 0x00

/-- R94: the default table (log entry 2) is a bijection; for every table that is one, two sequences that differ in exactly
one byte have different checksums. -/
def Obligations.CrcSeesEverySingleByteChange : Prop :=
  (∀ x y : Byte, romRead defaultCrcTable x = romRead defaultCrcTable y → x = y) ∧
  ∀ t : CrcTable, (∀ x y : Byte, romRead t x = romRead t y → x = y) →
    ∀ (before after : List Byte) (x y : Byte), x ≠ y → crc8 t (before ++ x :: after) ≠ crc8 t (before ++ y :: after)

/-- R95: CRC8 with LEN <= 16 completes in its step with CRC = crc8(BUF[0 .. LEN)) and nothing else changed. The clause for
LEN > 16 is the model's: the decoder never gives that form, which spells no command (R66), and exec then acts as the refused
bundle (DEDUCED, log entry 14), appending it to a mark that is a list (DESIGN CHOICE, log entry 6). -/
def Obligations.Crc8Completes : Prop :=
  ∀ (len : BitVec 5) (buf : Buf) (s : State), s.fsm = .idle →
    (len.toNat ≤ 16 → exec (.crc8 len buf) s = .next { s with
      resp := { resetResponse with
        tag := .done, op := 0x4, err := .noError, crc := crc8 s.cfg.crcTable (cells buf 0 len.toNat) } }) ∧
    (16 < len.toNat → exec (.crc8 len buf) s = .next { s with
      resp := { resetResponse with tag := .illegal, op := 0x4 },
      refusals := s.refusals ++ [{ cmd := 0x04, len := len }] })

/-! ## The Frame Codec -/

/-- R100: what encode writes into every cell of the frame buffer, its length and its error. -/
def Obligations.EncodedFrameCellByCell : Prop :=
  ∀ (c : Config) (dest key : Byte) (len : BitVec 5) (buf : Buf),
    (10 < len.toNat → encodeFrame c dest len buf key = { frame := zeroBuf, length := 0, err := .arraySizeError }) ∧
    (len.toNat ≤ 10 →
      (encodeFrame c dest len buf key).err = .noError ∧
      (encodeFrame c dest len buf key).length.toNat = len.toNat + 6 ∧
      cell (encodeFrame c dest len buf key).frame 0 = dest ∧
      cell (encodeFrame c dest len buf key).frame 1 = c.ownLocation ∧
      cell (encodeFrame c dest len buf key).frame 2 = 0x00 ∧
      (cell (encodeFrame c dest len buf key).frame 3).toNat = c.version.toNat * 16 + len.toNat ∧
      cell (encodeFrame c dest len buf key).frame 4 = key ∧
      (∀ j, j < len.toNat → cell (encodeFrame c dest len buf key).frame (5 + j) = cell buf j) ∧
      cell (encodeFrame c dest len buf key).frame (5 + len.toNat) =
        crc8 c.crcTable (cells (encodeFrame c dest len buf key).frame 0 (5 + len.toNat)) ∧
      (∀ i, len.toNat + 6 ≤ i → cell (encodeFrame c dest len buf key).frame i = 0x00))

/-- R103: a whole encoded frame has checksum 0 under every table with a zero at index 0; its byte 3 is {VERSION, LEN}. -/
def Obligations.WholeFrameChecksToZero : Prop :=
  ∀ (c : Config) (dest key : Byte) (len : BitVec 5) (buf : Buf), len.toNat ≤ 10 → romRead c.crcTable 0 = 0 →
    crc8 c.crcTable (cells (encodeFrame c dest len buf key).frame 0 (len.toNat + 6)) = 0x00 ∧
    (cell (encodeFrame c dest len buf key).frame 3).extractLsb' 4 4 = c.version ∧
    sizeNibble (encodeFrame c dest len buf key).frame = len.toNat

/-- R101: ENCODE completes in its step with the frame, its length and its error; the key is OKEY and KEY is not read. -/
def Obligations.EncodeCompletes : Prop :=
  ∀ (dest key : Byte) (len : BitVec 5) (buf : Buf) (s : State), s.fsm = .idle →
    exec (.encode dest key len buf) s = .next { s with
      resp := { resetResponse with
        tag := .done, op := 0x5,
        err := (encodeFrame s.cfg dest len buf key).err,
        len := (encodeFrame s.cfg dest len buf key).length,
        buf := (encodeFrame s.cfg dest len buf key).frame } } ∧
    (10 < len.toNat → exec (.encode dest key len buf) s = .next { s with
      resp := { resetResponse with tag := .done, op := 0x5, err := .arraySizeError } })

/-- R104 to R107: decode's checks in order, and every field of the parsed frame on each way out. -/
def Obligations.DecodeStepByStep : Prop :=
  ∀ (raw : Buf) (n : Nat),
    (n ≤ 6 → decodeFrame raw n = (zeroFrame, .sizingError)) ∧
    (7 ≤ n → 10 < sizeNibble raw →
      (decodeFrame raw n).2 = .invalidHeaderError ∧
      (decodeFrame raw n).1 = { zeroFrame with
        dst := cell raw 0, src := cell raw 1, ver := (cell raw 3).extractLsb' 4 4, size := (cell raw 3).extractLsb' 0 4,
        key := cell raw 4 }) ∧
    (7 ≤ n → sizeNibble raw ≤ 10 →
      (decodeFrame raw n).2 = (if sizeNibble raw + 5 ≠ n - 1 then .doubleFrameError else .noError) ∧
      (decodeFrame raw n).1.dst = cell raw 0 ∧
      (decodeFrame raw n).1.src = cell raw 1 ∧
      (decodeFrame raw n).1.ver.toNat = (cell raw 3).toNat / 16 ∧
      (decodeFrame raw n).1.size.toNat = (cell raw 3).toNat % 16 ∧
      (decodeFrame raw n).1.key = cell raw 4 ∧
      (decodeFrame raw n).1.crc = cell raw (sizeNibble raw + 5) ∧
      (decodeFrame raw n).1.plen.toNat = sizeNibble raw ∧
      (∀ j, j < sizeNibble raw → cell (decodeFrame raw n).1.payload j = cell raw (5 + j)) ∧
      (∀ j, sizeNibble raw ≤ j → cell (decodeFrame raw n).1.payload j = 0x00))

/-- R111: when decode reports NoError. -/
def Obligations.DecodeReportsNoErrorExactly : Prop :=
  ∀ (raw : Buf) (n : Nat),
    ((decodeFrame raw n).2 = .noError ↔ 7 ≤ n ∧ n ≤ 16 ∧ sizeNibble raw = n - 6) ∧
    ((decodeFrame raw n).2 = .noError → 1 ≤ sizeNibble raw ∧ sizeNibble raw ≤ 10)

/-- R110: a truncated buffer is a double frame whose CRC byte and missing payload bytes read 0x00. -/
def Obligations.TruncatedFrameReadsZero : Prop :=
  ∀ bytes : List Byte, 7 ≤ bytes.length → sizeNibble (bufOfBytes bytes) ≤ 10 →
    bytes.length < sizeNibble (bufOfBytes bytes) + 6 →
    (decodeFrame (bufOfBytes bytes) bytes.length).2 = .doubleFrameError ∧
    (decodeFrame (bufOfBytes bytes) bytes.length).1.crc = 0x00 ∧
    ∀ j, bytes.length ≤ 5 + j → cell (decodeFrame (bufOfBytes bytes) bytes.length).1.payload j = 0x00

/-- R77, R109: decode neither reads nor checks byte 2. -/
def Obligations.DecodeIgnoresTheReservedByte : Prop :=
  ∀ (raw raw' : Buf) (n : Nat), (∀ i, i ≠ 2 → cell raw i = cell raw' i) → decodeFrame raw n = decodeFrame raw' n

/-- R112: the round trip, for payloads of 1 to 10 bytes; a frame of an empty payload is rejected with SizingError. -/
def Obligations.FrameRoundTrip : Prop :=
  ∀ (c : Config) (dest key : Byte) (len : BitVec 5) (buf : Buf),
    (1 ≤ len.toNat → len.toNat ≤ 10 →
      decodeFrame (encodeFrame c dest len buf key).frame (len.toNat + 6) =
        ({ dst := dest, src := c.ownLocation, ver := c.version, size := BitVec.ofNat 4 len.toNat, key := key,
           crc := cell (encodeFrame c dest len buf key).frame (5 + len.toNat), plen := len,
           payload := operandBuf len buf }, .noError) ∧
      crc8 c.crcTable (cells (encodeFrame c dest len buf key).frame 0 (len.toNat + 5)) =
        cell (encodeFrame c dest len buf key).frame (5 + len.toNat)) ∧
    (len.toNat = 0 → decodeFrame (encodeFrame c dest len buf key).frame 6 = (zeroFrame, .sizingError))

/-- R113: DECODE with LEN <= 16 completes in its step with decode's frame and error, addresses raw. The clause for LEN > 16 is
the model's: the decoder never gives that form, which spells no command (R66), and exec then acts as the refused bundle
(DEDUCED, log entry 14), appending it to a mark that is a list (DESIGN CHOICE, log entry 6). -/
def Obligations.DecodeCompletes : Prop :=
  ∀ (len : BitVec 5) (buf : Buf) (s : State), s.fsm = .idle →
    (len.toNat ≤ 16 → exec (.decode len buf) s = .next { s with
      resp := { resetResponse with
        tag := .done, op := 0x6,
        err := (decodeFrame (operandBuf len buf) len.toNat).2,
        dst := (decodeFrame (operandBuf len buf) len.toNat).1.dst,
        src := (decodeFrame (operandBuf len buf) len.toNat).1.src,
        ver := (decodeFrame (operandBuf len buf) len.toNat).1.ver,
        size := (decodeFrame (operandBuf len buf) len.toNat).1.size,
        fkey := (decodeFrame (operandBuf len buf) len.toNat).1.key,
        crc := (decodeFrame (operandBuf len buf) len.toNat).1.crc,
        len := (decodeFrame (operandBuf len buf) len.toNat).1.plen,
        buf := (decodeFrame (operandBuf len buf) len.toNat).1.payload } }) ∧
    (16 < len.toNat → exec (.decode len buf) s = .next { s with
      resp := { resetResponse with tag := .illegal, op := 0x6 },
      refusals := s.refusals ++ [{ cmd := 0x06, len := len }] })

/-! ## The Address Resolver -/

/-- R150: resolve is the identity below NUM_MODULES (an unsigned comparison) and INVALID_LOCATION from there on. -/
def Obligations.ResolveIsARangeCheck : Prop :=
  ∀ (c : Config) (raw : Byte),
    (raw.toNat < c.numModules → resolve c raw = raw) ∧
    (c.numModules ≤ raw.toNat → resolve c raw = c.invalidLocation)

/-- With legal constants resolve never gives MODULE_NONE or MODULE_ALL, maps every sentinel to INVALID_LOCATION, gives a
valid location or INVALID_LOCATION, and is idempotent (43_address_resolver.md, the sentence beginning "Its result is either a
valid location", which the spec marks as derived). -/
def Obligations.ResolveGivesNoOtherSentinel : Prop :=
  ∀ (c : Config) (raw : Byte), c.Legal →
    resolve c raw ≠ c.moduleNone ∧ resolve c raw ≠ c.moduleAll ∧
    ((resolve c raw).toNat < c.numModules ∨ resolve c raw = c.invalidLocation) ∧
    resolve c c.moduleNone = c.invalidLocation ∧ resolve c c.moduleAll = c.invalidLocation ∧
    resolve c c.invalidLocation = c.invalidLocation ∧ resolve c (resolve c raw) = resolve c raw

/-- R152: RESOLVE completes in its step with LOC = resolve(RAW) and nothing else changed. -/
def Obligations.ResolveCompletes : Prop :=
  ∀ (raw : Byte) (s : State), s.fsm = .idle →
    exec (.resolve raw) s = .next { s with
      resp := { resetResponse with
        tag := .done, op := 0x7, err := .noError,
        loc := if raw.toNat < s.cfg.numModules then raw else s.cfg.invalidLocation } }

/-! ## RECEIVE -/

/-- R120, R130: RECEIVE, accepted, issues its one poll and waits; RESP and everything else stay. -/
def Obligations.ReceiveIssuesOnePoll : Prop :=
  ∀ s : State, s.fsm = .idle →
    exec .receive s = .next { s with fsm := .rxWait, requests := s.requests ++ [.rx 16] }

/-- R121: the RX_WAIT step on its answer writes RESP with receive_result and goes back to IDLE; KEY is read, not written;
without an answer there is no step. An over-long buffer is the fault of R43. -/
def Obligations.ReceiveAnswerStep : Prop :=
  (∀ (s : State) (p : Option Bundle), s.fsm = .rxWait → NothingDelivered s p → step s = .next (settled s p)) ∧
  ∀ (s : State) (status : RxStatus) (bytes : List Byte) (p : Option Bundle),
    s.fsm = .rxWait → Delivers s (.rx status bytes) p →
    (∀ r, receiveResult s.cfg s.key status bytes = .ok r →
      step s = .next { settled s p with resp := r, fsm := .idle }) ∧
    (∀ f, receiveResult s.cfg s.key status bytes = .error f → step s = .fault f)

/-- The response to a frame that reached the CRC check (R138), with the verdict `valid` and `err`. -/
def messageReport (c : Config) (raw : Buf) (valid : Bool) (err : ErrorKind) : Response :=
  { resetResponse with
    tag := .done, op := 0x1, err := err, avail := true, valid := valid,
    dst := resolve c (cell raw 0), src := resolve c (cell raw 1),
    len := BitVec.ofNat 5 (sizeNibble raw), buf := bufOfBytes (cells raw 5 (5 + sizeNibble raw)) }

/-- R139: the receive outcomes, row by row. -/
def Obligations.ReceiveOutcomesRowByRow : Prop :=
  ∀ (c : Config) (key : Byte) (bytes : List Byte),
    receiveResult c key .noData bytes = .ok { resetResponse with tag := .done, op := 0x1 } ∧
    receiveResult c key .hwError bytes = .ok { resetResponse with tag := .done, op := 0x1, err := .hwError, avail := true } ∧
    receiveResult c key .timeout bytes =
      .ok { resetResponse with tag := .done, op := 0x1, err := .timeoutError, avail := true } ∧
    (bytes.length ≤ 6 → receiveResult c key .ok bytes =
      .ok { resetResponse with tag := .done, op := 0x1, err := .sizingError, avail := true }) ∧
    (16 < bytes.length → receiveResult c key .ok bytes = .error .rxLengthOverCapacity) ∧
    (7 ≤ bytes.length → bytes.length ≤ 16 → 10 < sizeNibble (bufOfBytes bytes) → receiveResult c key .ok bytes =
      .ok { resetResponse with tag := .done, op := 0x1, err := .invalidHeaderError, avail := true }) ∧
    (7 ≤ bytes.length → bytes.length ≤ 16 → sizeNibble (bufOfBytes bytes) ≤ 10 →
      receiveResult c key .ok bytes = .ok (messageReport c (bufOfBytes bytes)
        (decide (crc8 c.crcTable (cells (bufOfBytes bytes) 0 (sizeNibble (bufOfBytes bytes) + 5)) =
            cell (bufOfBytes bytes) (sizeNibble (bufOfBytes bytes) + 5) ∧ cell (bufOfBytes bytes) 4 = key))
        (if bytes.length ≠ sizeNibble (bufOfBytes bytes) + 6 then .doubleFrameError
         else if crc8 c.crcTable (cells (bufOfBytes bytes) 0 (sizeNibble (bufOfBytes bytes) + 5)) ≠
            cell (bufOfBytes bytes) (sizeNibble (bufOfBytes bytes) + 5) then .crcError
         else if cell (bufOfBytes bytes) 4 ≠ key then .keyError
         else .noError)))

/-- R125, R139: a RECEIVE from IDLE to IDLE: accepted, any number `k` of waits, then the answer. Only RESP and the one request
are left of it (or the fault of an over-long buffer). -/
def Obligations.ReceiveFromAcceptanceToResponse : Prop :=
  ∀ (s : State) (k : Nat) (status : RxStatus) (bytes : List Byte) (rest : List EnvMove), s.fsm = .idle →
    Host.Core.run Sys2Proof.core (k + 2)
        { s with port := some (encodeBundle .receive),
                 env := quiet :: (List.replicate k quiet ++ answering (.rx status bytes) :: rest) } =
      match receiveResult s.cfg s.key status bytes with
      | .ok r => .next { s with port := none, env := rest, resp := r, requests := s.requests ++ [.rx 16] }
      | .error f => .fault f

/-! ## SEND -/

/-- R141: a SEND of more than 10 bytes completes in its acceptance step, with no transport request and the latches and FSM
unchanged. -/
def Obligations.OverlongSendCompletesAtOnce : Prop :=
  ∀ (dest : Byte) (len : BitVec 5) (buf : Buf) (s : State), s.fsm = .idle → 10 < len.toNat →
    exec (.send dest len buf) s = .next { s with
      resp := { resetResponse with tag := .done, op := 0x2, err := .arraySizeError } }

/-- R142, R143, R27: a SEND of at most 10 bytes latches the frame encoded under KEY, hands exactly its bytes to the transport,
and waits. -/
def Obligations.SendHandsOverTheFrame : Prop :=
  ∀ (dest : Byte) (len : BitVec 5) (buf : Buf) (s : State), s.fsm = .idle → len.toNat ≤ 10 →
    exec (.send dest len buf) s = .next { s with
      fsm := .txWait,
      txbuf := (encodeFrame s.cfg dest len buf s.key).frame,
      txlen := len + 6,
      requests := s.requests ++
        [.tx (cells (encodeFrame s.cfg dest len buf s.key).frame 0 (len.toNat + 6)) (len + 6)] } ∧
    (cells (encodeFrame s.cfg dest len buf s.key).frame 0 (len.toNat + 6)).length = len.toNat + 6

/-- R122: the TX_WAIT step on its answer captures the mapped status, asks for continuous-receive mode and waits; the reserved
status is the fault TxStatusReserved; without an answer there is no step. -/
def Obligations.SendAnswerStep : Prop :=
  (∀ (s : State) (p : Option Bundle), s.fsm = .txWait → NothingDelivered s p → step s = .next (settled s p)) ∧
  ∀ (s : State) (status : TxStatus) (p : Option Bundle), s.fsm = .txWait → Delivers s (.tx status) p →
    (∀ e, status.error? = some e →
      step s = .next { settled s p with sendst := e, requests := s.requests ++ [.crx], fsm := .restoreWait }) ∧
    (status = .reserved → step s = .fault .txStatusReserved)

/-- R84: a send status as an ErrorKind; R81, R82: the statuses' codes. -/
def Obligations.TransportStatusCodes : Prop :=
  TxStatus.error? .ok = some .noError ∧ TxStatus.error? .hwError = some .hwError ∧
  TxStatus.error? .timeout = some .timeoutError ∧ TxStatus.error? .reserved = none ∧
  [0, 1, 2, 3].map txStatusOfCode = [.ok, .hwError, .timeout, .reserved] ∧
  [0, 1, 2, 3].map rxStatusOfCode = [.noData, .ok, .hwError, .timeout]

/-- R123: the RESTORE_WAIT step on its answer responds SENDST, or InitError if the restore failed, clears the latches and
goes back to IDLE; without an answer there is no step. -/
def Obligations.RestoreAnswerStep : Prop :=
  (∀ (s : State) (p : Option Bundle), s.fsm = .restoreWait → NothingDelivered s p → step s = .next (settled s p)) ∧
  ∀ (s : State) (ok : Bool) (p : Option Bundle), s.fsm = .restoreWait → Delivers s (.crx ok) p →
    step s = .next { settled s p with
      resp := { resetResponse with tag := .done, op := 0x2, err := if ok then s.sendst else .initError },
      txbuf := zeroBuf, txlen := 0, sendst := .noError, fsm := .idle }

/-- R145: a SEND from IDLE to IDLE: accepted, any number `j` of waits, the send answer, any number `k` of waits, the restore
answer. It issues TxReq and then CrxReq, whatever the send answer, reports InitError on a failed restore and else the send's
error, and leaves the latches empty; the reserved status is a fault after TxReq. -/
def Obligations.SendFromAcceptanceToResponse : Prop :=
  ∀ (s : State) (dest : Byte) (len : BitVec 5) (buf : Buf) (j k : Nat) (status : TxStatus) (ok : Bool)
    (rest : List EnvMove), s.fsm = .idle → len.toNat ≤ 10 →
    (∀ e, status.error? = some e →
      Host.Core.run Sys2Proof.core (j + k + 3)
          { s with port := some (encodeBundle (.send dest len buf)),
                   env := quiet :: (List.replicate j quiet ++ answering (.tx status) ::
                     (List.replicate k quiet ++ answering (.crx ok) :: rest)) } =
        .next { s with
          port := none, env := rest,
          resp := { resetResponse with tag := .done, op := 0x2, err := if ok then e else .initError },
          requests := s.requests ++
            [.tx (cells (encodeFrame s.cfg dest len buf s.key).frame 0 (len.toNat + 6)) (len + 6), .crx]
          txbuf := zeroBuf, txlen := 0, sendst := .noError }) ∧
    (status = .reserved →
      Host.Core.run Sys2Proof.core (j + 2)
          { s with port := some (encodeBundle (.send dest len buf)),
                   env := quiet :: (List.replicate j quiet ++ answering (.tx status) :: rest) } =
        .fault .txStatusReserved)

/-! ## REKEY and the key -/

/-- R146: REKEY completes in its step: KEY <- OKEY, and a DONE response; nothing else changes. -/
def Obligations.RekeyCompletes : Prop :=
  ∀ (newKey : Byte) (s : State), s.fsm = .idle →
    exec (.rekey newKey) s = .next { s with
      key := newKey, resp := { resetResponse with tag := .done, op := 0x3, err := .noError } }

/-- R147, R190: after REKEY, a frame encoded under the old key `k0` (by a block with the same configuration, 1 to 10 payload
bytes) fails the key check with KeyError as soon as the new key differs, and passes if it is equal; its addresses and payload
are reported either way. -/
def Obligations.OldKeyFramesFailAfterRekey : Prop :=
  ∀ (s : State) (k0 newKey dest : Byte) (len : BitVec 5) (buf : Buf) (rest : List EnvMove),
    s.fsm = .idle → 1 ≤ len.toNat → len.toNat ≤ 10 →
    Host.Core.run Sys2Proof.core 3
        { s with port := some (encodeBundle (.rekey newKey)),
                 env := quiet :: presenting (encodeBundle .receive) ::
                   answering (.rx .ok (cells (encodeFrame s.cfg dest len buf k0).frame 0 (len.toNat + 6))) :: rest } =
      .next { s with
        port := none, env := rest, key := newKey, requests := s.requests ++ [.rx 16],
        resp := { resetResponse with
          tag := .done, op := 0x1, err := if k0 = newKey then .noError else .keyError, avail := true,
          valid := decide (k0 = newKey), dst := resolve s.cfg dest, src := resolve s.cfg s.cfg.ownLocation,
          len := len, buf := operandBuf len buf } }

/-- R148, R55: in every step, from every state, reset writes 0x00 to KEY, and without reset KEY changes only by a REKEY
accepted in IDLE, to its OKEY. -/
def Obligations.OnlyRekeyAndResetWriteKey : Prop :=
  ∀ s t : State, step s = .next t →
    ((nextMove s).reset = true → t.key = 0x00) ∧
    ((nextMove s).reset = false →
      t.key = s.key ∨ ∃ b k, Accepts s b ∧ decodeBundle b = .ok (.rekey k) ∧ t.key = k)

/-! ## The controller, the port and the transport -/

/-- A step runs the decoded instruction: when the block accepts a bundle that decodes to `i`, the bundle leaves the port, the
environment's move is taken, and the step is exec of `i` (R120). -/
def Obligations.StepRunsTheDecodedInstruction : Prop :=
  ∀ (s : State) (b : Bundle) (i : Instr), Accepts s b → decodeBundle b = .ok i →
    step s = exec i { s with port := none, env := s.env.tail }

/-- A table word placed by withFetchWord is what the next step runs (the placing is the model's choice, log entry 15). -/
def Obligations.PlacedWordIsRunNext : Prop :=
  ∀ (s : State) (nbits w : Nat) (i : Instr), decodeTableWord nbits w = some i →
    step (s.withFetchWord nbits w) = exec i { s with port := none, fsm := .idle }

/-- R60, R124: while the port is busy and nothing is delivered, the block changes nothing and the presented bundle stays held;
in IDLE with nothing presented, nothing changes. -/
def Obligations.WaitingChangesNothing : Prop :=
  ∀ (s : State) (p : Option Bundle), NothingDelivered s p → (s.fsm ≠ .idle ∨ p = none) → step s = .next (settled s p)

/-- R124, R194: any number of steps without an answer leave a waiting block where it is; with no answer ever, for ever. -/
def Obligations.UnansweredBlockWaitsForEver : Prop :=
  ∀ (s : State) (k : Nat), s.fsm ≠ .idle →
    (∀ rest : List EnvMove, Host.Core.run Sys2Proof.core k { s with env := List.replicate k quiet ++ rest } =
      .next { s with env := rest }) ∧
    (s.env = [] → Host.Core.run Sys2Proof.core k s = .next s)

/-- R165: each of the three ways the transport can break its contract is a fault with its name. (An unasked-for answer is
taken here in a wait state, whatever bundle is held, or in IDLE with no bundle presented.) -/
def Obligations.BrokenContractIsAFault : Prop :=
  ∀ (s : State) (p : Option Bundle),
    (∀ bytes, s.fsm = .rxWait → Delivers s (.rx .ok bytes) p → 16 < bytes.length →
      step s = .fault .rxLengthOverCapacity) ∧
    (s.fsm = .txWait → Delivers s (.tx .reserved) p → step s = .fault .txStatusReserved) ∧
    (∀ a, s.fsm = .idle → p = none → Delivers s a p → step s = .fault .unexpectedAnswer) ∧
    (∀ a, s.fsm = .rxWait → (∀ st bs, a ≠ .rx st bs) → Delivers s a p → step s = .fault .unexpectedAnswer) ∧
    (∀ a, s.fsm = .txWait → (∀ st, a ≠ .tx st) → Delivers s a p → step s = .fault .unexpectedAnswer) ∧
    (∀ a, s.fsm = .restoreWait → (∀ ok, a ≠ .crx ok) → Delivers s a p → step s = .fault .unexpectedAnswer)

/-- A step faults exactly when it consumes an answer that breaks the transport's contract, with the name of the breach
(60_exceptions.md section 2); that an answer in IDLE is consumed before a bundle presented in the same step is the model's
deduction, log entry 10. -/
def Obligations.StepFaultsExactlyOnBrokenContract : Prop :=
  ∀ (s : State) (f : Fault), step s = .fault f ↔
    ∃ a p, Delivers s a p ∧
      ((f = .rxLengthOverCapacity ∧ s.fsm = .rxWait ∧ ∃ bytes, a = .rx .ok bytes ∧ 16 < bytes.length) ∨
       (f = .txStatusReserved ∧ s.fsm = .txWait ∧ a = .tx .reserved) ∨
       (f = .unexpectedAnswer ∧ (∀ st bs, a = .rx st bs → s.fsm ≠ .rxWait) ∧ (∀ st, a = .tx st → s.fsm ≠ .txWait) ∧
         (∀ ok, a = .crx ok → s.fsm ≠ .restoreWait)))

/-- A step is refused exactly when the host drives another bundle over a held one (R176; that this is a refusal is the
model's choice, log entry 9): no command is ever refused. -/
def Obligations.StepRefusesExactlyAChangedBundle : Prop :=
  ∀ (s : State) (r : Refusal), step s = .refused r ↔
    r = .heldBundleChanged ∧ ∃ a b, s.port = some a ∧ (nextMove s).present = some b ∧ a ≠ b

/-- An accepted bundle that spells no command writes the illegal response, changes no other register and issues no request
(30_encoding.md, illegal command words and illegal response). That the step is a next state with the refusal recorded as a
mark in the state is the model's (DEDUCED, log entry 5, from 60_exceptions.md, refusals), and that the mark is a list which
then holds IllegalCommand(CMD, LEN) as a member is its choice (DESIGN CHOICE, log entry 6). -/
def Obligations.IllegalBundleIsRefused : Prop :=
  ∀ (s : State) (b : Bundle), Accepts s b →
    (b.cmd.toNat / 16 ≠ 0 ∨ b.cmd.toNat % 16 = 0 ∨ 8 ≤ b.cmd.toNat % 16 ∨
      ((b.cmd.toNat % 16 = 4 ∨ b.cmd.toNat % 16 = 6) ∧ 16 < b.len.toNat)) →
    ∃ t, step s = .next t ∧
      t = { settled s none with
        resp := { resetResponse with tag := .illegal, op := b.cmd.extractLsb' 0 4 }, refusals := t.refusals } ∧
      { cmd := b.cmd, len := b.len } ∈ t.refusals

/-- The transition table of R124, with R53: in a step without reset FSM moves only along the table's arrows, and the requests
grow by exactly the one request the arrow issues, which is then the outstanding one; on every other arrow by none. -/
def Obligations.TransitionTable : Prop :=
  ∀ s t : State, step s = .next t → (nextMove s).reset = false →
    (t.fsm = s.fsm ∧ t.requests = s.requests) ∨
    (s.fsm = .idle ∧ t.fsm = .rxWait ∧ t.requests = s.requests ++ [.rx 16] ∧ outstanding t = some (.rx 16)) ∨
    (s.fsm = .idle ∧ t.fsm = .txWait ∧ ∃ q, t.requests = s.requests ++ [q] ∧ outstanding t = some q) ∨
    (s.fsm = .rxWait ∧ t.fsm = .idle ∧ t.requests = s.requests) ∨
    (s.fsm = .txWait ∧ t.fsm = .restoreWait ∧ t.requests = s.requests ++ [.crx] ∧ outstanding t = some .crx) ∨
    (s.fsm = .restoreWait ∧ t.fsm = .idle ∧ t.requests = s.requests)

/-! ## Frames -/

/-- R49: CRC8, ENCODE, DECODE and RESOLVE read no register: two ready states with the same configuration get the same response,
whatever KEY, the latches and RESP hold; and they write RESP only. -/
def Obligations.PureCommandsReadNoStateAndWriteOnlyResp : Prop :=
  ∀ (i : Instr), WellFormed i → (∀ dest len buf, i ≠ .send dest len buf) → i ≠ .receive → (∀ k, i ≠ .rekey k) →
    ∀ s s' t t' : State, s.fsm = .idle → s'.fsm = .idle → s.cfg = s'.cfg →
      exec i s = .next t → exec i s' = .next t' →
      t.resp = t'.resp ∧ t = { s with resp := t.resp }

/-- The frame of the session commands at acceptance (R120, R124): RECEIVE changes FSM and the requests; SEND changes RESP, or
FSM, the latch and the requests; REKEY changes KEY and RESP. -/
def Obligations.SessionCommandFrames : Prop :=
  ∀ s t : State,
    (exec .receive s = .next t → t = { s with fsm := t.fsm, requests := t.requests }) ∧
    (∀ dest len buf, exec (.send dest len buf) s = .next t →
      t = { s with resp := t.resp } ∨
      t = { s with fsm := t.fsm, txbuf := t.txbuf, txlen := t.txlen, requests := t.requests }) ∧
    (∀ k, exec (.rekey k) s = .next t → t = { s with key := t.key, resp := t.resp })

/-- R30: no step, from any state, changes a configuration constant. -/
def Obligations.ConfigurationIsNeverWritten : Prop :=
  ∀ s t : State, step s = .next t → t.cfg = s.cfg

/-- The records of a run, the refusal mark and the requests issued, only grow in a step without reset, and reset starts a run
with neither (60_exceptions.md section 2, 70_reset_and_hazards.md section 1; that they are lists in the state is the model's,
log entries 6 and 7). -/
def Obligations.RunRecordsGrowUntilReset : Prop :=
  ∀ s t : State, step s = .next t →
    ((nextMove s).reset = false →
      (∃ more, t.refusals = s.refusals ++ more) ∧ ∃ more, t.requests = s.requests ++ more) ∧
    ((nextMove s).reset = true → t.refusals = [] ∧ t.requests = [])

/-! ## Reset and invariants -/

/-- The state right after reset: the registers as R180 and R72 give them. The clause State.reset.requests = [] is the model's:
it keeps the run's requests in the state and starts them empty (DEDUCED, log entry 7); that State.reset.refusals = [] is how
the absent refusal mark reads is its choice (DESIGN CHOICE, log entry 6). -/
def Obligations.ResetValues : Prop :=
  State.reset.key = 0x00 ∧ State.reset.fsm = .idle ∧ (∀ i, i < 16 → cell State.reset.txbuf i = 0x00) ∧
  State.reset.txlen = 0 ∧ State.reset.sendst = .noError ∧
  State.reset.resp = {
    tag := .none, op := 0, err := .noError, avail := false, valid := false, dst := 0, src := 0, ver := 0, size := 0,
    fkey := 0, crc := 0, loc := 0, len := 0, buf := zeroBuf } ∧
  portReady State.reset = true ∧ outstanding State.reset = none ∧ State.reset.refusals = [] ∧ State.reset.requests = []

/-- Reset in any step, from any state, sets every register to its reset value and leaves the configuration, whatever bundle or
answer comes with it: the bundle is not accepted, the answer is not consumed, and an outstanding request is abandoned without
a response (R180, R181). The clause t.port = p, that the bundle stays held, is the model's (DEDUCED, log entry 11); the empty
list for the absent refusal mark is its choice (DESIGN CHOICE, log entry 6). What becomes of the run's requests is said in
`Obligations.RunRecordsGrowUntilReset`. -/
def Obligations.ResetWinsInEveryStep : Prop :=
  ∀ (s : State) (p : Option Bundle), ResetAsserted s p → ∃ t, step s = .next t ∧
    t.key = 0x00 ∧ t.fsm = .idle ∧ portReady t = true ∧ (∀ i, i < 16 → cell t.txbuf i = 0x00) ∧ t.txlen = 0 ∧
    t.sendst = .noError ∧
    t.resp = {
      tag := .none, op := 0, err := .noError, avail := false, valid := false, dst := 0, src := 0, ver := 0, size := 0,
      fkey := 0, crc := 0, loc := 0, len := 0, buf := zeroBuf } ∧
    t.cfg = s.cfg ∧ t.port = p ∧ outstanding t = none ∧ t.refusals = []

/-- The machine's invariant is kept by every step, from every state that has it: legal configuration, latches as R27, R28
and R33 leave them, requests in finished exchanges (R53), RESP in a form R70 allows with an error R160 allows. -/
def Obligations.EveryStepKeepsTheInvariant : Prop :=
  ∀ s t : State, Inv s → step s = .next t → Inv t

/-- The invariant holds right after reset, whatever is strapped (legal constants: the model's choice, log entry 1). -/
def Obligations.ResetHasTheInvariant : Prop := Inv State.reset

/-- R33: after every command completes, nothing of it is left but KEY and RESP: in every IDLE state a step of a machine with
the invariant reaches, the latches are empty and no request is outstanding. -/
def Obligations.NothingButKeyAndRespOutlivesACommand : Prop :=
  ∀ s t : State, Inv s → step s = .next t → t.fsm = .idle →
    t.txbuf = zeroBuf ∧ t.txlen = 0 ∧ t.sendst = .noError ∧ outstanding t = none ∧ Exchanges t.requests

/-- R195: a complete run stays complete while the environment does nothing, and no register changes. -/
def Obligations.CompleteRunStaysComplete : Prop :=
  ∀ s : State, Complete s → NothingDelivered s none → step s = .next { s with env := s.env.tail } ∧
    Complete { s with env := s.env.tail }
end

