-- ==== Sys2Proof/Laws/Buffers.lean ====
section
/-! SUPPORT. Buffers through their cells: two buffers with the same 16 cells are equal, and what each buffer operation holds in
each cell. -/

namespace Sys2Proof.Machine

theorem cell_of_lt {b : Buf} {i : Nat} (h : i < 16) : cell b i = b[i] := by
  simp [cell, List.getD, h]

theorem cell_of_ge {b : Buf} {i : Nat} (h : 16 ≤ i) : cell b i = 0 := by
  simp [cell, List.getD, h]

/-- Buffers are their cells. -/
theorem buf_ext {a b : Buf} (h : ∀ i, i < 16 → cell a i = cell b i) : a = b := by
  apply Vector.ext
  intro i hi
  rw [← cell_of_lt hi, ← cell_of_lt hi]
  exact h i hi

@[simp] theorem cell_zeroBuf (i : Nat) : cell zeroBuf i = 0 := by
  by_cases h : i < 16
  · rw [cell_of_lt h]; simp [zeroBuf]
  · exact cell_of_ge (by omega)

/-- A laid-out sequence: its bytes, then 0x00. -/
theorem cell_bufOfBytes (l : List Byte) (i : Nat) :
    cell (bufOfBytes l) i = if i < 16 then l.getD i 0 else 0 := by
  by_cases h : i < 16
  · rw [cell_of_lt h]; simp [bufOfBytes, h]
  · rw [cell_of_ge (by omega)]; simp [h]

@[simp] theorem length_cells (b : Buf) (lo hi : Nat) : (cells b lo hi).length = min hi 16 - lo := by
  simp [cells]

/-- An element of buf[lo .. hi). -/
theorem getD_cells (b : Buf) (lo hi i : Nat) :
    (cells b lo hi).getD i 0 = if lo + i < hi then cell b (lo + i) else 0 := by
  simp only [cells, cell, List.getD_eq_getElem?_getD, List.getElem?_drop, List.getElem?_take]
  split <;> simp

/-- A slice is determined by its cells. -/
theorem cells_congr {a b : Buf} {lo hi : Nat} (h : ∀ i, lo ≤ i → i < hi → cell a i = cell b i) :
    cells a lo hi = cells b lo hi := by
  apply List.ext_getElem (by simp)
  intro i h1 h2
  have hc := length_cells a lo hi
  have := h (lo + i) (by omega) (by omega)
  have ea := getD_cells a lo hi i
  have eb := getD_cells b lo hi i
  rw [if_pos (by omega)] at ea eb
  rw [List.getD_eq_getElem _ _ h1] at ea
  rw [List.getD_eq_getElem _ _ h2] at eb
  rw [ea, eb, this]

/-- The slice from 0 of a laid-out sequence of at most 16 bytes. -/
theorem cells_bufOfBytes (l : List Byte) (n : Nat) (hn : n ≤ l.length) (h16 : n ≤ 16) :
    cells (bufOfBytes l) 0 n = l.take n := by
  apply List.ext_getElem
  · simp; omega
  · intro i h1 h2
    have hl : i < n := by simp at h2; omega
    have e := getD_cells (bufOfBytes l) 0 n i
    rw [if_pos (by omega), List.getD_eq_getElem _ _ h1, cell_bufOfBytes, if_pos (by omega)] at e
    rw [e]
    simp [List.getD, show i < l.length by omega]

@[simp] theorem length_operandBytes (len : BitVec 5) (buf : Buf) :
    (operandBytes len buf).length = min len.toNat 16 := by
  simp [operandBytes]

/-- The operand buffer: BUF below LEN, 0x00 from LEN on (R44). -/
theorem cell_operandBuf (len : BitVec 5) (buf : Buf) (i : Nat) :
    cell (operandBuf len buf) i = if i < len.toNat then cell buf i else 0 := by
  rw [operandBuf, cell_bufOfBytes, operandBytes, getD_cells]
  by_cases h : i < 16
  · simp [h]
  · simp [h, cell_of_ge (b := buf) (show 16 ≤ i by omega)]

end Sys2Proof.Machine
end

