-- ==== Sys2Proof/Laws/Codec.lean ====
section
/-! SUPPORT. What encode and decode answer, by the branch their checks take (41_frame_codec.md R100, R104 to R107). -/

namespace Sys2Proof.Machine

theorem encodeFrame_long {c : Config} {dest key : Byte} {len : BitVec 5} {buf : Buf} (h : 10 < len.toNat) :
    encodeFrame c dest len buf key = { frame := zeroBuf, length := 0, err := .arraySizeError } := by
  simp [encodeFrame, h]

theorem encodeFrame_short {c : Config} {dest key : Byte} {len : BitVec 5} {buf : Buf} (h : len.toNat ≤ 10) :
    encodeFrame c dest len buf key =
      { frame := bufOfBytes (frameBody c dest len (operandBytes len buf) key
          ++ [crc8 c.crcTable (frameBody c dest len (operandBytes len buf) key)])
        length := len + 6
        err := .noError } := by
  simp [encodeFrame, show ¬ 10 < len.toNat by omega]

/-- The body the CRC covers is 5 + LEN bytes. -/
theorem length_frameBody (c : Config) (dest key : Byte) (len : BitVec 5) (payload : List Byte) :
    (frameBody c dest len payload key).length = 5 + payload.length := by
  simp [frameBody]; omega

theorem decodeFrame_short {raw : Buf} {n : Nat} (h : n ≤ 6) : decodeFrame raw n = (zeroFrame, .sizingError) := by
  simp [decodeFrame, h]

theorem decodeFrame_badHeader {raw : Buf} {n : Nat} (h : 6 < n) (hs : 10 < (parseHeader raw).size.toNat) :
    decodeFrame raw n = (parseHeader raw, .invalidHeaderError) := by
  simp [decodeFrame, show ¬ n ≤ 6 by omega, hs]

theorem decodeFrame_body {raw : Buf} {n : Nat} (h : 6 < n) (hs : (parseHeader raw).size.toNat ≤ 10) :
    decodeFrame raw n = (parseBody raw, if crcIndex raw = n - 1 then .noError else .doubleFrameError) := by
  by_cases hc : crcIndex raw = n - 1 <;>
    simp [decodeFrame, show ¬ n ≤ 6 by omega, show ¬ 10 < (parseHeader raw).size.toNat by omega, hc]

@[simp] theorem parseHeader_crc (raw : Buf) : (parseHeader raw).crc = 0 := rfl
@[simp] theorem parseHeader_plen (raw : Buf) : (parseHeader raw).plen = 0 := rfl
@[simp] theorem parseHeader_payload (raw : Buf) : (parseHeader raw).payload = zeroBuf := rfl
@[simp] theorem parseBody_dst (raw : Buf) : (parseBody raw).dst = cell raw 0 := rfl
@[simp] theorem parseBody_src (raw : Buf) : (parseBody raw).src = cell raw 1 := rfl
@[simp] theorem parseBody_ver (raw : Buf) : (parseBody raw).ver = (cell raw 3).extractLsb' 4 4 := rfl
@[simp] theorem parseBody_size (raw : Buf) : (parseBody raw).size = (cell raw 3).extractLsb' 0 4 := rfl
@[simp] theorem parseBody_key (raw : Buf) : (parseBody raw).key = cell raw 4 := rfl

end Sys2Proof.Machine
end

