-- ==== Sys2Proof/Laws/Config.lean ====
section
/-! SUPPORT. The configuration at reset is legal, whatever is strapped (00_scope.md R8, R9). -/

namespace Sys2Proof

theorem Config.sample_legal : Config.sample.Legal := by decide

theorem Config.atReset_legal : Config.atReset.Legal := by
  unfold Config.atReset
  split
  · assumption
  · exact Config.sample_legal

end Sys2Proof
end

