-- ==== Sys2Proof/Laws/State.lean ====
section
/-! SUPPORT. What each register operation leaves in each field of the state: one lemma per field per operation. -/

namespace Sys2Proof.Machine

variable (s : State)

@[simp] theorem setKey_key (v : Byte) : (setKey v s).key = v := rfl
@[simp] theorem setKey_fsm (v : Byte) : (setKey v s).fsm = s.fsm := rfl
@[simp] theorem setKey_txbuf (v : Byte) : (setKey v s).txbuf = s.txbuf := rfl
@[simp] theorem setKey_txlen (v : Byte) : (setKey v s).txlen = s.txlen := rfl
@[simp] theorem setKey_sendst (v : Byte) : (setKey v s).sendst = s.sendst := rfl
@[simp] theorem setKey_resp (v : Byte) : (setKey v s).resp = s.resp := rfl
@[simp] theorem setKey_cfg (v : Byte) : (setKey v s).cfg = s.cfg := rfl
@[simp] theorem setKey_port (v : Byte) : (setKey v s).port = s.port := rfl
@[simp] theorem setKey_requests (v : Byte) : (setKey v s).requests = s.requests := rfl
@[simp] theorem setKey_refusals (v : Byte) : (setKey v s).refusals = s.refusals := rfl
@[simp] theorem setKey_env (v : Byte) : (setKey v s).env = s.env := rfl

@[simp] theorem setFsm_key (f : Fsm) : (setFsm f s).key = s.key := rfl
@[simp] theorem setFsm_fsm (f : Fsm) : (setFsm f s).fsm = f := rfl
@[simp] theorem setFsm_txbuf (f : Fsm) : (setFsm f s).txbuf = s.txbuf := rfl
@[simp] theorem setFsm_txlen (f : Fsm) : (setFsm f s).txlen = s.txlen := rfl
@[simp] theorem setFsm_sendst (f : Fsm) : (setFsm f s).sendst = s.sendst := rfl
@[simp] theorem setFsm_resp (f : Fsm) : (setFsm f s).resp = s.resp := rfl
@[simp] theorem setFsm_cfg (f : Fsm) : (setFsm f s).cfg = s.cfg := rfl
@[simp] theorem setFsm_port (f : Fsm) : (setFsm f s).port = s.port := rfl
@[simp] theorem setFsm_requests (f : Fsm) : (setFsm f s).requests = s.requests := rfl
@[simp] theorem setFsm_refusals (f : Fsm) : (setFsm f s).refusals = s.refusals := rfl
@[simp] theorem setFsm_env (f : Fsm) : (setFsm f s).env = s.env := rfl

@[simp] theorem loadLatch_key (frame : Buf) (length : BitVec 5) : (loadLatch frame length s).key = s.key := rfl
@[simp] theorem loadLatch_fsm (frame : Buf) (length : BitVec 5) : (loadLatch frame length s).fsm = s.fsm := rfl
@[simp] theorem loadLatch_txbuf (frame : Buf) (length : BitVec 5) : (loadLatch frame length s).txbuf = frame := rfl
@[simp] theorem loadLatch_txlen (frame : Buf) (length : BitVec 5) : (loadLatch frame length s).txlen = length := rfl
@[simp] theorem loadLatch_sendst (frame : Buf) (length : BitVec 5) : (loadLatch frame length s).sendst = s.sendst := rfl
@[simp] theorem loadLatch_resp (frame : Buf) (length : BitVec 5) : (loadLatch frame length s).resp = s.resp := rfl
@[simp] theorem loadLatch_cfg (frame : Buf) (length : BitVec 5) : (loadLatch frame length s).cfg = s.cfg := rfl
@[simp] theorem loadLatch_port (frame : Buf) (length : BitVec 5) : (loadLatch frame length s).port = s.port := rfl
@[simp] theorem loadLatch_requests (frame : Buf) (length : BitVec 5) : (loadLatch frame length s).requests = s.requests := rfl
@[simp] theorem loadLatch_refusals (frame : Buf) (length : BitVec 5) : (loadLatch frame length s).refusals = s.refusals := rfl
@[simp] theorem loadLatch_env (frame : Buf) (length : BitVec 5) : (loadLatch frame length s).env = s.env := rfl

@[simp] theorem captureStatus_key (e : ErrorKind) : (captureStatus e s).key = s.key := rfl
@[simp] theorem captureStatus_fsm (e : ErrorKind) : (captureStatus e s).fsm = s.fsm := rfl
@[simp] theorem captureStatus_txbuf (e : ErrorKind) : (captureStatus e s).txbuf = s.txbuf := rfl
@[simp] theorem captureStatus_txlen (e : ErrorKind) : (captureStatus e s).txlen = s.txlen := rfl
@[simp] theorem captureStatus_sendst (e : ErrorKind) : (captureStatus e s).sendst = e := rfl
@[simp] theorem captureStatus_resp (e : ErrorKind) : (captureStatus e s).resp = s.resp := rfl
@[simp] theorem captureStatus_cfg (e : ErrorKind) : (captureStatus e s).cfg = s.cfg := rfl
@[simp] theorem captureStatus_port (e : ErrorKind) : (captureStatus e s).port = s.port := rfl
@[simp] theorem captureStatus_requests (e : ErrorKind) : (captureStatus e s).requests = s.requests := rfl
@[simp] theorem captureStatus_refusals (e : ErrorKind) : (captureStatus e s).refusals = s.refusals := rfl
@[simp] theorem captureStatus_env (e : ErrorKind) : (captureStatus e s).env = s.env := rfl

@[simp] theorem clearLatch_key : (clearLatch s).key = s.key := rfl
@[simp] theorem clearLatch_fsm : (clearLatch s).fsm = s.fsm := rfl
@[simp] theorem clearLatch_txbuf : (clearLatch s).txbuf = zeroBuf := rfl
@[simp] theorem clearLatch_txlen : (clearLatch s).txlen = 0 := rfl
@[simp] theorem clearLatch_sendst : (clearLatch s).sendst = .noError := rfl
@[simp] theorem clearLatch_resp : (clearLatch s).resp = s.resp := rfl
@[simp] theorem clearLatch_cfg : (clearLatch s).cfg = s.cfg := rfl
@[simp] theorem clearLatch_port : (clearLatch s).port = s.port := rfl
@[simp] theorem clearLatch_requests : (clearLatch s).requests = s.requests := rfl
@[simp] theorem clearLatch_refusals : (clearLatch s).refusals = s.refusals := rfl
@[simp] theorem clearLatch_env : (clearLatch s).env = s.env := rfl

@[simp] theorem respond_key (r : Response) : (respond r s).key = s.key := rfl
@[simp] theorem respond_fsm (r : Response) : (respond r s).fsm = s.fsm := rfl
@[simp] theorem respond_txbuf (r : Response) : (respond r s).txbuf = s.txbuf := rfl
@[simp] theorem respond_txlen (r : Response) : (respond r s).txlen = s.txlen := rfl
@[simp] theorem respond_sendst (r : Response) : (respond r s).sendst = s.sendst := rfl
@[simp] theorem respond_resp (r : Response) : (respond r s).resp = r := rfl
@[simp] theorem respond_cfg (r : Response) : (respond r s).cfg = s.cfg := rfl
@[simp] theorem respond_port (r : Response) : (respond r s).port = s.port := rfl
@[simp] theorem respond_requests (r : Response) : (respond r s).requests = s.requests := rfl
@[simp] theorem respond_refusals (r : Response) : (respond r s).refusals = s.refusals := rfl
@[simp] theorem respond_env (r : Response) : (respond r s).env = s.env := rfl

@[simp] theorem issue_key (q : Request) : (issue q s).key = s.key := rfl
@[simp] theorem issue_fsm (q : Request) : (issue q s).fsm = s.fsm := rfl
@[simp] theorem issue_txbuf (q : Request) : (issue q s).txbuf = s.txbuf := rfl
@[simp] theorem issue_txlen (q : Request) : (issue q s).txlen = s.txlen := rfl
@[simp] theorem issue_sendst (q : Request) : (issue q s).sendst = s.sendst := rfl
@[simp] theorem issue_resp (q : Request) : (issue q s).resp = s.resp := rfl
@[simp] theorem issue_cfg (q : Request) : (issue q s).cfg = s.cfg := rfl
@[simp] theorem issue_port (q : Request) : (issue q s).port = s.port := rfl
@[simp] theorem issue_requests (q : Request) : (issue q s).requests = s.requests ++ [q] := rfl
@[simp] theorem issue_refusals (q : Request) : (issue q s).refusals = s.refusals := rfl
@[simp] theorem issue_env (q : Request) : (issue q s).env = s.env := rfl

@[simp] theorem setPort_key (p : Option Bundle) : (setPort p s).key = s.key := rfl
@[simp] theorem setPort_fsm (p : Option Bundle) : (setPort p s).fsm = s.fsm := rfl
@[simp] theorem setPort_txbuf (p : Option Bundle) : (setPort p s).txbuf = s.txbuf := rfl
@[simp] theorem setPort_txlen (p : Option Bundle) : (setPort p s).txlen = s.txlen := rfl
@[simp] theorem setPort_sendst (p : Option Bundle) : (setPort p s).sendst = s.sendst := rfl
@[simp] theorem setPort_resp (p : Option Bundle) : (setPort p s).resp = s.resp := rfl
@[simp] theorem setPort_cfg (p : Option Bundle) : (setPort p s).cfg = s.cfg := rfl
@[simp] theorem setPort_port (p : Option Bundle) : (setPort p s).port = p := rfl
@[simp] theorem setPort_requests (p : Option Bundle) : (setPort p s).requests = s.requests := rfl
@[simp] theorem setPort_refusals (p : Option Bundle) : (setPort p s).refusals = s.refusals := rfl
@[simp] theorem setPort_env (p : Option Bundle) : (setPort p s).env = s.env := rfl

@[simp] theorem setEnv_key (e : List EnvMove) : (setEnv e s).key = s.key := rfl
@[simp] theorem setEnv_fsm (e : List EnvMove) : (setEnv e s).fsm = s.fsm := rfl
@[simp] theorem setEnv_txbuf (e : List EnvMove) : (setEnv e s).txbuf = s.txbuf := rfl
@[simp] theorem setEnv_txlen (e : List EnvMove) : (setEnv e s).txlen = s.txlen := rfl
@[simp] theorem setEnv_sendst (e : List EnvMove) : (setEnv e s).sendst = s.sendst := rfl
@[simp] theorem setEnv_resp (e : List EnvMove) : (setEnv e s).resp = s.resp := rfl
@[simp] theorem setEnv_cfg (e : List EnvMove) : (setEnv e s).cfg = s.cfg := rfl
@[simp] theorem setEnv_port (e : List EnvMove) : (setEnv e s).port = s.port := rfl
@[simp] theorem setEnv_requests (e : List EnvMove) : (setEnv e s).requests = s.requests := rfl
@[simp] theorem setEnv_refusals (e : List EnvMove) : (setEnv e s).refusals = s.refusals := rfl
@[simp] theorem setEnv_env (e : List EnvMove) : (setEnv e s).env = e := rfl

@[simp] theorem refuseBundle_key (c : IllegalCommand) : (refuseBundle c s).key = s.key := rfl
@[simp] theorem refuseBundle_fsm (c : IllegalCommand) : (refuseBundle c s).fsm = s.fsm := rfl
@[simp] theorem refuseBundle_txbuf (c : IllegalCommand) : (refuseBundle c s).txbuf = s.txbuf := rfl
@[simp] theorem refuseBundle_txlen (c : IllegalCommand) : (refuseBundle c s).txlen = s.txlen := rfl
@[simp] theorem refuseBundle_sendst (c : IllegalCommand) : (refuseBundle c s).sendst = s.sendst := rfl
@[simp] theorem refuseBundle_resp (c : IllegalCommand) : (refuseBundle c s).resp = illegalResponse (opcodeOf c.cmd) := rfl
@[simp] theorem refuseBundle_cfg (c : IllegalCommand) : (refuseBundle c s).cfg = s.cfg := rfl
@[simp] theorem refuseBundle_port (c : IllegalCommand) : (refuseBundle c s).port = s.port := rfl
@[simp] theorem refuseBundle_requests (c : IllegalCommand) : (refuseBundle c s).requests = s.requests := rfl
@[simp] theorem refuseBundle_refusals (c : IllegalCommand) : (refuseBundle c s).refusals = s.refusals ++ [c] := rfl
@[simp] theorem refuseBundle_env (c : IllegalCommand) : (refuseBundle c s).env = s.env := rfl

@[simp] theorem resetBlock_key : (resetBlock s).key = 0x00 := rfl
@[simp] theorem resetBlock_fsm : (resetBlock s).fsm = .idle := rfl
@[simp] theorem resetBlock_txbuf : (resetBlock s).txbuf = zeroBuf := rfl
@[simp] theorem resetBlock_txlen : (resetBlock s).txlen = 0 := rfl
@[simp] theorem resetBlock_sendst : (resetBlock s).sendst = .noError := rfl
@[simp] theorem resetBlock_resp : (resetBlock s).resp = resetResponse := rfl
@[simp] theorem resetBlock_cfg : (resetBlock s).cfg = s.cfg := rfl
@[simp] theorem resetBlock_port : (resetBlock s).port = s.port := rfl
@[simp] theorem resetBlock_requests : (resetBlock s).requests = [] := rfl
@[simp] theorem resetBlock_refusals : (resetBlock s).refusals = [] := rfl
@[simp] theorem resetBlock_env : (resetBlock s).env = s.env := rfl

end Sys2Proof.Machine
end

