-- ==== Sys2Proof/Laws/Ops.lean ====
section
/-! SUPPORT. One lemma per shared operation: everything it can do. -/

namespace Sys2Proof.Machine

theorem whenReady_idle {act : State → Outcome} {s : State} (h : s.fsm = .idle) : whenReady act s = act s := by
  simp [whenReady, h]

theorem whenReady_busy {act : State → Outcome} {s : State} (h : s.fsm ≠ .idle) : whenReady act s = .next s := by
  simp [whenReady, h]

/-- A guarded command that answers next was performed while the port was ready, or changed nothing. -/
theorem whenReady_next {act : State → Outcome} {s t : State} (h : whenReady act s = .next t) :
    (s.fsm = .idle ∧ act s = .next t) ∨ (s.fsm ≠ .idle ∧ t = s) := by
  by_cases hs : s.fsm = .idle
  · exact .inl ⟨hs, by rwa [whenReady_idle hs] at h⟩
  · rw [whenReady_busy hs] at h
    exact .inr ⟨hs, by cases h; rfl⟩

@[simp] theorem portAfter_none (p : Option Bundle) : portAfter p none = some p := by cases p <;> rfl

@[simp] theorem portAfter_empty (d : Option Bundle) : portAfter none d = some d := by cases d <;> rfl

/-- The port has no move exactly when another bundle is driven over a held one (R176). -/
theorem portAfter_eq_none {held driven : Option Bundle} (h : portAfter held driven = none) :
    ∃ a b, held = some a ∧ driven = some b ∧ a ≠ b := by
  match held, driven with
  | none, none => simp at h
  | none, some _ => simp at h
  | some _, none => simp at h
  | some a, some b => exact ⟨a, b, rfl, rfl, by simpa [portAfter] using h⟩

/-- What a consumed answer can do (R86, R121 to R123): it is the outstanding request's, or the contract is broken. -/
theorem consumeAnswer_cases (a : Answer) (s : State) :
    (∃ st bs, s.fsm = .rxWait ∧ a = .rx st bs ∧ consumeAnswer a s = finishReceive st bs s) ∨
    (∃ st, s.fsm = .txWait ∧ a = .tx st ∧ consumeAnswer a s = captureSend st s) ∨
    (∃ ok, s.fsm = .restoreWait ∧ a = .crx ok ∧ consumeAnswer a s = finishSend ok s) ∨
    consumeAnswer a s = .fault .unexpectedAnswer := by
  cases hf : s.fsm <;> cases a <;> simp [consumeAnswer, hf]

/-- RECEIVE's answer step: a response, or the fault of an over-long buffer (R121). -/
theorem finishReceive_cases (st : RxStatus) (bs : List Byte) (s : State) :
    (∃ r, receiveResult s.cfg s.key st bs = .ok r ∧ finishReceive st bs s = .next (setFsm .idle (respond r s))) ∨
    (∃ f, receiveResult s.cfg s.key st bs = .error f ∧ finishReceive st bs s = .fault f) := by
  cases h : receiveResult s.cfg s.key st bs <;> simp [finishReceive, h]

/-- SEND's first answer step: the status captured and the restore requested, or the reserved status (R122). -/
theorem captureSend_cases (st : TxStatus) (s : State) :
    (∃ e, st.error? = some e ∧ captureSend st s = .next (setFsm .restoreWait (issue .crx (captureStatus e s)))) ∨
    (st = .reserved ∧ captureSend st s = .fault .txStatusReserved) := by
  cases st <;> simp [captureSend, TxStatus.error?]

/-- What accepting can do (R120): nothing to accept or a busy port, a performed command, or a refused bundle. -/
theorem acceptBundle_cases (s : State) :
    ((s.fsm ≠ .idle ∨ s.port = none) ∧ acceptBundle s = .next s) ∨
    (∃ b i, s.fsm = .idle ∧ s.port = some b ∧ decodeBundle b = .ok i ∧ acceptBundle s = exec i (setPort none s)) ∨
    (∃ b e, s.fsm = .idle ∧ s.port = some b ∧ decodeBundle b = .error e ∧
      acceptBundle s = .next (refuseBundle { cmd := b.cmd, len := b.len } (setPort none s))) := by
  by_cases hs : s.fsm = .idle
  · cases hp : s.port with
    | none => exact .inl ⟨.inr rfl, by simp [acceptBundle, hs, hp]⟩
    | some b =>
      cases hd : decodeBundle b with
      | ok i => exact .inr (.inl ⟨b, i, hs, rfl, hd, by simp [acceptBundle, hs, hp, hd]⟩)
      | error e => exact .inr (.inr ⟨b, e, hs, rfl, hd, by simp [acceptBundle, hs, hp, hd]⟩)
  · exact .inl ⟨.inl hs, by simp [acceptBundle, hs]⟩

/-- Everything a step can be: the host's breach, a reset, a consumed answer, or a step of the command port. -/
theorem step_cases (s : State) :
    (portAfter s.port (nextMove s).present = none ∧ step s = .refused .heldBundleChanged) ∨
    ∃ p, portAfter s.port (nextMove s).present = some p ∧
      (((nextMove s).reset = true ∧ step s = .next (resetBlock (setPort p (takeMove s)))) ∨
       ((nextMove s).reset = false ∧ ∃ a, (nextMove s).answer = some a ∧
          step s = consumeAnswer a (setPort p (takeMove s))) ∨
       ((nextMove s).reset = false ∧ (nextMove s).answer = none ∧
          step s = acceptBundle (setPort p (takeMove s)))) := by
  have hport : (takeMove s).port = s.port := rfl
  cases hp : portAfter s.port (nextMove s).present with
  | none => exact .inl ⟨rfl, by simp [step, cycle, hport, hp]⟩
  | some p =>
    refine .inr ⟨p, rfl, ?_⟩
    cases hr : (nextMove s).reset with
    | true => exact .inl ⟨rfl, by simp [step, cycle, blockStep, hport, hp, hr]⟩
    | false =>
      cases ha : (nextMove s).answer with
      | some a => exact .inr (.inl ⟨rfl, a, rfl, by simp [step, cycle, blockStep, hport, hp, hr, ha]⟩)
      | none => exact .inr (.inr ⟨rfl, rfl, by simp [step, cycle, blockStep, hport, hp, hr, ha]⟩)

/-- The state the block acts on, in the statements' words. -/
theorem setPort_takeMove (p : Option Bundle) (s : State) : setPort p (takeMove s) = settled s p := rfl

end Sys2Proof.Machine
end

