-- ==== Sys2Proof/Laws/Exec.lean ====
section
/-! SUPPORT. What every command has in common: it answers a next state, and while the port is busy it changes nothing. -/

namespace Sys2Proof.Machine

theorem exec_busy {i : Instr} {s : State} (h : s.fsm ≠ .idle) : exec i s = .next s := by
  cases i <;>
    simp [exec, execReceive, execSend, execRekey, execCrc8, execEncode, execDecode, execResolve, whenReady_busy h]

/-- No command faults and none is refused: errors are values (60_exceptions.md R162). -/
theorem exec_answers_next (i : Instr) (s : State) : ∃ t, exec i s = .next t := by
  by_cases h : s.fsm = .idle
  · cases i with
    | receive => exact ⟨_, by rw [exec, execReceive, whenReady_idle h]⟩
    | rekey => exact ⟨_, by rw [exec, execRekey, whenReady_idle h]⟩
    | encode => exact ⟨_, by rw [exec, execEncode, whenReady_idle h]⟩
    | resolve => exact ⟨_, by rw [exec, execResolve, whenReady_idle h]⟩
    | send dest len buf =>
      simp only [exec, execSend, whenReady_idle h]
      split <;> exact ⟨_, rfl⟩
    | crc8 len buf =>
      simp only [exec, execCrc8, whenReady_idle h]
      split <;> exact ⟨_, rfl⟩
    | decode len buf =>
      simp only [exec, execDecode, whenReady_idle h]
      split <;> exact ⟨_, rfl⟩
  · exact ⟨s, exec_busy h⟩

/-- Everything a command can do to the state (R120): write RESP, be refused (an ill-formed CRC8 or DECODE), or the one effect
of RECEIVE, REKEY or SEND beyond that. -/
theorem exec_next_cases {i : Instr} {s t : State} (h : exec i s = .next t) :
    t = s ∨ (s.fsm = .idle ∧
      ((∃ r, t = respond r s) ∨
       (∃ c, t = refuseBundle c s) ∨
       (i = .receive ∧ t = setFsm .rxWait (issue (.rx 16) s)) ∨
       (∃ k, i = .rekey k ∧ t = respond (doneResponse 0x3 .noError) (setKey k s)) ∨
       (∃ dest len buf e, i = .send dest len buf ∧ len.toNat ≤ 10 ∧ encodeFrame s.cfg dest len buf s.key = e ∧
          t = setFsm .txWait (issue (.tx (cells e.frame 0 e.length.toNat) e.length) (loadLatch e.frame e.length s))))) := by
  by_cases hs : s.fsm = .idle
  · refine .inr ⟨hs, ?_⟩
    cases i <;>
      simp only [exec, execReceive, execSend, execRekey, execCrc8, execEncode, execDecode, execResolve,
        whenReady_idle hs] at h
    · cases h; simp
    · split at h <;> cases h
      · exact .inl ⟨_, rfl⟩
      · exact .inr (.inr (.inr (.inr ⟨_, _, _, _, rfl, by omega, rfl, rfl⟩)))
    · cases h; exact .inr (.inr (.inr (.inl ⟨_, rfl, rfl⟩)))
    · split at h <;> cases h
      · exact .inr (.inl ⟨_, rfl⟩)
      · exact .inl ⟨_, rfl⟩
    · cases h; exact .inl ⟨_, rfl⟩
    · split at h <;> cases h
      · exact .inr (.inl ⟨_, rfl⟩)
      · exact .inl ⟨_, rfl⟩
    · cases h; exact .inl ⟨_, rfl⟩
  · rw [exec_busy hs] at h
    cases h
    exact .inl rfl

end Sys2Proof.Machine
end

