-- ==== Sys2Proof/Laws/PerInstr.lean ====
section
/-! SUPPORT. One lemma per constructor: the command word the encoder writes is the opcode map's (30_encoding.md R63), and
the encoder's bundle is never refused for a well-formed instruction. -/

namespace Sys2Proof.Laws.CommandWord

/-- The CMD of R63 for each command. -/
def word : Instr → Byte
  | .receive => 0x01
  | .send _ _ _ => 0x02
  | .rekey _ => 0x03
  | .crc8 _ _ => 0x04
  | .encode _ _ _ _ => 0x05
  | .decode _ _ => 0x06
  | .resolve _ => 0x07

/-- The encoder writes the command's word, with reserved bits 0, and reserves no legal form: the bundle is refused exactly
when the instruction is ill-formed. -/
def Statement (i : Instr) : Prop :=
  (encodeBundle i).cmd = word i ∧ reservedOf (encodeBundle i).cmd = 0 ∧
    ((∃ r, decodeBundle (encodeBundle i) = .error r) ↔ ¬ WellFormed i)

theorem receive : Statement .receive :=
  ⟨rfl, show reservedOf 0x01 = 0 by decide, by simp [decodeBundle, encodeBundle, bareBundle, reservedOf, opcodeOf, WellFormed, wellFormed]⟩

theorem send (dest : Byte) (len : BitVec 5) (buf : Buf) : Statement (.send dest len buf) :=
  ⟨rfl, show reservedOf 0x02 = 0 by decide, by simp [decodeBundle, encodeBundle, bareBundle, reservedOf, opcodeOf, WellFormed, wellFormed]⟩

theorem rekey (newKey : Byte) : Statement (.rekey newKey) :=
  ⟨rfl, show reservedOf 0x03 = 0 by decide, by simp [decodeBundle, encodeBundle, bareBundle, reservedOf, opcodeOf, WellFormed, wellFormed]⟩

theorem crc8 (len : BitVec 5) (buf : Buf) : Statement (.crc8 len buf) :=
  ⟨rfl, show reservedOf 0x04 = 0 by decide, by
    by_cases h : LenInCapacity len <;>
      simp [decodeBundle, encodeBundle, bareBundle, reservedOf, opcodeOf, WellFormed, wellFormed, h]⟩

theorem encode (dest key : Byte) (len : BitVec 5) (buf : Buf) : Statement (.encode dest key len buf) :=
  ⟨rfl, show reservedOf 0x05 = 0 by decide, by simp [decodeBundle, encodeBundle, bareBundle, reservedOf, opcodeOf, WellFormed, wellFormed]⟩

theorem decode (len : BitVec 5) (buf : Buf) : Statement (.decode len buf) :=
  ⟨rfl, show reservedOf 0x06 = 0 by decide, by
    by_cases h : LenInCapacity len <;>
      simp [decodeBundle, encodeBundle, bareBundle, reservedOf, opcodeOf, WellFormed, wellFormed, h]⟩

theorem resolve (raw : Byte) : Statement (.resolve raw) :=
  ⟨rfl, show reservedOf 0x07 = 0 by decide, by simp [decodeBundle, encodeBundle, bareBundle, reservedOf, opcodeOf, WellFormed, wellFormed]⟩

end Sys2Proof.Laws.CommandWord
end

