-- ==== Sys2Proof/Laws/Responses.lean ====
section
/-! SUPPORT. What each response builder leaves in each field of the response: one lemma per field. -/

namespace Sys2Proof.Machine

@[simp] theorem resetResponse_tag : resetResponse.tag = .none := rfl
@[simp] theorem resetResponse_op : resetResponse.op = 0 := rfl
@[simp] theorem resetResponse_err : resetResponse.err = .noError := rfl
@[simp] theorem resetResponse_avail : resetResponse.avail = false := rfl
@[simp] theorem resetResponse_valid : resetResponse.valid = false := rfl
@[simp] theorem resetResponse_dst : resetResponse.dst = 0 := rfl
@[simp] theorem resetResponse_src : resetResponse.src = 0 := rfl
@[simp] theorem resetResponse_ver : resetResponse.ver = 0 := rfl
@[simp] theorem resetResponse_size : resetResponse.size = 0 := rfl
@[simp] theorem resetResponse_fkey : resetResponse.fkey = 0 := rfl
@[simp] theorem resetResponse_crc : resetResponse.crc = 0 := rfl
@[simp] theorem resetResponse_loc : resetResponse.loc = 0 := rfl
@[simp] theorem resetResponse_len : resetResponse.len = 0 := rfl
@[simp] theorem resetResponse_buf : resetResponse.buf = zeroBuf := rfl

@[simp] theorem illegalResponse_tag (opc : BitVec 4) : (illegalResponse opc).tag = .illegal := rfl
@[simp] theorem illegalResponse_op (opc : BitVec 4) : (illegalResponse opc).op = opc := rfl
@[simp] theorem illegalResponse_err (opc : BitVec 4) : (illegalResponse opc).err = .noError := rfl
@[simp] theorem illegalResponse_avail (opc : BitVec 4) : (illegalResponse opc).avail = false := rfl
@[simp] theorem illegalResponse_valid (opc : BitVec 4) : (illegalResponse opc).valid = false := rfl
@[simp] theorem illegalResponse_dst (opc : BitVec 4) : (illegalResponse opc).dst = 0 := rfl
@[simp] theorem illegalResponse_src (opc : BitVec 4) : (illegalResponse opc).src = 0 := rfl
@[simp] theorem illegalResponse_ver (opc : BitVec 4) : (illegalResponse opc).ver = 0 := rfl
@[simp] theorem illegalResponse_size (opc : BitVec 4) : (illegalResponse opc).size = 0 := rfl
@[simp] theorem illegalResponse_fkey (opc : BitVec 4) : (illegalResponse opc).fkey = 0 := rfl
@[simp] theorem illegalResponse_crc (opc : BitVec 4) : (illegalResponse opc).crc = 0 := rfl
@[simp] theorem illegalResponse_loc (opc : BitVec 4) : (illegalResponse opc).loc = 0 := rfl
@[simp] theorem illegalResponse_len (opc : BitVec 4) : (illegalResponse opc).len = 0 := rfl
@[simp] theorem illegalResponse_buf (opc : BitVec 4) : (illegalResponse opc).buf = zeroBuf := rfl

@[simp] theorem doneResponse_tag (op : BitVec 4) (e : ErrorKind) : (doneResponse op e).tag = .done := rfl
@[simp] theorem doneResponse_op (op : BitVec 4) (e : ErrorKind) : (doneResponse op e).op = op := rfl
@[simp] theorem doneResponse_err (op : BitVec 4) (e : ErrorKind) : (doneResponse op e).err = e := rfl
@[simp] theorem doneResponse_avail (op : BitVec 4) (e : ErrorKind) : (doneResponse op e).avail = false := rfl
@[simp] theorem doneResponse_valid (op : BitVec 4) (e : ErrorKind) : (doneResponse op e).valid = false := rfl
@[simp] theorem doneResponse_dst (op : BitVec 4) (e : ErrorKind) : (doneResponse op e).dst = 0 := rfl
@[simp] theorem doneResponse_src (op : BitVec 4) (e : ErrorKind) : (doneResponse op e).src = 0 := rfl
@[simp] theorem doneResponse_ver (op : BitVec 4) (e : ErrorKind) : (doneResponse op e).ver = 0 := rfl
@[simp] theorem doneResponse_size (op : BitVec 4) (e : ErrorKind) : (doneResponse op e).size = 0 := rfl
@[simp] theorem doneResponse_fkey (op : BitVec 4) (e : ErrorKind) : (doneResponse op e).fkey = 0 := rfl
@[simp] theorem doneResponse_crc (op : BitVec 4) (e : ErrorKind) : (doneResponse op e).crc = 0 := rfl
@[simp] theorem doneResponse_loc (op : BitVec 4) (e : ErrorKind) : (doneResponse op e).loc = 0 := rfl
@[simp] theorem doneResponse_len (op : BitVec 4) (e : ErrorKind) : (doneResponse op e).len = 0 := rfl
@[simp] theorem doneResponse_buf (op : BitVec 4) (e : ErrorKind) : (doneResponse op e).buf = zeroBuf := rfl

@[simp] theorem failedReceive_tag (e : ErrorKind) : (failedReceive e).tag = .done := rfl
@[simp] theorem failedReceive_op (e : ErrorKind) : (failedReceive e).op = 0x1 := rfl
@[simp] theorem failedReceive_err (e : ErrorKind) : (failedReceive e).err = e := rfl
@[simp] theorem failedReceive_avail (e : ErrorKind) : (failedReceive e).avail = true := rfl
@[simp] theorem failedReceive_valid (e : ErrorKind) : (failedReceive e).valid = false := rfl
@[simp] theorem failedReceive_dst (e : ErrorKind) : (failedReceive e).dst = 0 := rfl
@[simp] theorem failedReceive_src (e : ErrorKind) : (failedReceive e).src = 0 := rfl
@[simp] theorem failedReceive_ver (e : ErrorKind) : (failedReceive e).ver = 0 := rfl
@[simp] theorem failedReceive_size (e : ErrorKind) : (failedReceive e).size = 0 := rfl
@[simp] theorem failedReceive_fkey (e : ErrorKind) : (failedReceive e).fkey = 0 := rfl
@[simp] theorem failedReceive_crc (e : ErrorKind) : (failedReceive e).crc = 0 := rfl
@[simp] theorem failedReceive_loc (e : ErrorKind) : (failedReceive e).loc = 0 := rfl
@[simp] theorem failedReceive_len (e : ErrorKind) : (failedReceive e).len = 0 := rfl
@[simp] theorem failedReceive_buf (e : ErrorKind) : (failedReceive e).buf = zeroBuf := rfl

@[simp] theorem messageResponse_tag (c : Config) (key : Byte) (raw : Buf) (pf : ParsedFrame) (e : ErrorKind) : (messageResponse c key raw pf e).tag = .done := rfl
@[simp] theorem messageResponse_op (c : Config) (key : Byte) (raw : Buf) (pf : ParsedFrame) (e : ErrorKind) : (messageResponse c key raw pf e).op = 0x1 := rfl
@[simp] theorem messageResponse_err (c : Config) (key : Byte) (raw : Buf) (pf : ParsedFrame) (e : ErrorKind) : (messageResponse c key raw pf e).err = (frameVerdict c.crcTable key raw pf e).2 := rfl
@[simp] theorem messageResponse_avail (c : Config) (key : Byte) (raw : Buf) (pf : ParsedFrame) (e : ErrorKind) : (messageResponse c key raw pf e).avail = true := rfl
@[simp] theorem messageResponse_valid (c : Config) (key : Byte) (raw : Buf) (pf : ParsedFrame) (e : ErrorKind) : (messageResponse c key raw pf e).valid = (frameVerdict c.crcTable key raw pf e).1 := rfl
@[simp] theorem messageResponse_dst (c : Config) (key : Byte) (raw : Buf) (pf : ParsedFrame) (e : ErrorKind) : (messageResponse c key raw pf e).dst = resolve c pf.dst := rfl
@[simp] theorem messageResponse_src (c : Config) (key : Byte) (raw : Buf) (pf : ParsedFrame) (e : ErrorKind) : (messageResponse c key raw pf e).src = resolve c pf.src := rfl
@[simp] theorem messageResponse_ver (c : Config) (key : Byte) (raw : Buf) (pf : ParsedFrame) (e : ErrorKind) : (messageResponse c key raw pf e).ver = 0 := rfl
@[simp] theorem messageResponse_size (c : Config) (key : Byte) (raw : Buf) (pf : ParsedFrame) (e : ErrorKind) : (messageResponse c key raw pf e).size = 0 := rfl
@[simp] theorem messageResponse_fkey (c : Config) (key : Byte) (raw : Buf) (pf : ParsedFrame) (e : ErrorKind) : (messageResponse c key raw pf e).fkey = 0 := rfl
@[simp] theorem messageResponse_crc (c : Config) (key : Byte) (raw : Buf) (pf : ParsedFrame) (e : ErrorKind) : (messageResponse c key raw pf e).crc = 0 := rfl
@[simp] theorem messageResponse_loc (c : Config) (key : Byte) (raw : Buf) (pf : ParsedFrame) (e : ErrorKind) : (messageResponse c key raw pf e).loc = 0 := rfl
@[simp] theorem messageResponse_len (c : Config) (key : Byte) (raw : Buf) (pf : ParsedFrame) (e : ErrorKind) : (messageResponse c key raw pf e).len = pf.plen := rfl
@[simp] theorem messageResponse_buf (c : Config) (key : Byte) (raw : Buf) (pf : ParsedFrame) (e : ErrorKind) : (messageResponse c key raw pf e).buf = pf.payload := rfl

@[simp] theorem encodeResponse_tag (e : Encoded) : (encodeResponse e).tag = .done := rfl
@[simp] theorem encodeResponse_op (e : Encoded) : (encodeResponse e).op = 0x5 := rfl
@[simp] theorem encodeResponse_err (e : Encoded) : (encodeResponse e).err = e.err := rfl
@[simp] theorem encodeResponse_avail (e : Encoded) : (encodeResponse e).avail = false := rfl
@[simp] theorem encodeResponse_valid (e : Encoded) : (encodeResponse e).valid = false := rfl
@[simp] theorem encodeResponse_dst (e : Encoded) : (encodeResponse e).dst = 0 := rfl
@[simp] theorem encodeResponse_src (e : Encoded) : (encodeResponse e).src = 0 := rfl
@[simp] theorem encodeResponse_ver (e : Encoded) : (encodeResponse e).ver = 0 := rfl
@[simp] theorem encodeResponse_size (e : Encoded) : (encodeResponse e).size = 0 := rfl
@[simp] theorem encodeResponse_fkey (e : Encoded) : (encodeResponse e).fkey = 0 := rfl
@[simp] theorem encodeResponse_crc (e : Encoded) : (encodeResponse e).crc = 0 := rfl
@[simp] theorem encodeResponse_loc (e : Encoded) : (encodeResponse e).loc = 0 := rfl
@[simp] theorem encodeResponse_len (e : Encoded) : (encodeResponse e).len = e.length := rfl
@[simp] theorem encodeResponse_buf (e : Encoded) : (encodeResponse e).buf = e.frame := rfl

@[simp] theorem decodeResponse_tag (r : ParsedFrame × ErrorKind) : (decodeResponse r).tag = .done := rfl
@[simp] theorem decodeResponse_op (r : ParsedFrame × ErrorKind) : (decodeResponse r).op = 0x6 := rfl
@[simp] theorem decodeResponse_err (r : ParsedFrame × ErrorKind) : (decodeResponse r).err = r.2 := rfl
@[simp] theorem decodeResponse_avail (r : ParsedFrame × ErrorKind) : (decodeResponse r).avail = false := rfl
@[simp] theorem decodeResponse_valid (r : ParsedFrame × ErrorKind) : (decodeResponse r).valid = false := rfl
@[simp] theorem decodeResponse_dst (r : ParsedFrame × ErrorKind) : (decodeResponse r).dst = r.1.dst := rfl
@[simp] theorem decodeResponse_src (r : ParsedFrame × ErrorKind) : (decodeResponse r).src = r.1.src := rfl
@[simp] theorem decodeResponse_ver (r : ParsedFrame × ErrorKind) : (decodeResponse r).ver = r.1.ver := rfl
@[simp] theorem decodeResponse_size (r : ParsedFrame × ErrorKind) : (decodeResponse r).size = r.1.size := rfl
@[simp] theorem decodeResponse_fkey (r : ParsedFrame × ErrorKind) : (decodeResponse r).fkey = r.1.key := rfl
@[simp] theorem decodeResponse_crc (r : ParsedFrame × ErrorKind) : (decodeResponse r).crc = r.1.crc := rfl
@[simp] theorem decodeResponse_loc (r : ParsedFrame × ErrorKind) : (decodeResponse r).loc = 0 := rfl
@[simp] theorem decodeResponse_len (r : ParsedFrame × ErrorKind) : (decodeResponse r).len = r.1.plen := rfl
@[simp] theorem decodeResponse_buf (r : ParsedFrame × ErrorKind) : (decodeResponse r).buf = r.1.payload := rfl

end Sys2Proof.Machine
end

