-- ==== Sys2Proof/Laws/Run.lean ====
section
/-! SUPPORT. Running the machine a given number of steps, one step at a time. -/

namespace Sys2Proof.Machine

theorem run_zero (s : State) : Host.Core.run Sys2Proof.core 0 s = .next s := rfl

theorem run_next {s t : State} (k : Nat) (h : step s = .next t) :
    Host.Core.run Sys2Proof.core (k + 1) s = Host.Core.run Sys2Proof.core k t := by
  have hs : Sys2Proof.core.step s = .next t := h
  simp only [Host.Core.run, hs]

theorem run_fault {s : State} {f : Fault} (k : Nat) (h : step s = .fault f) :
    Host.Core.run Sys2Proof.core (k + 1) s = .fault f := by
  have hs : Sys2Proof.core.step s = .fault f := h
  simp only [Host.Core.run, hs]

end Sys2Proof.Machine
end

