-- ==== Sys2Proof/Tests/Slice0.lean ====
section
/-! SUPPORT. Tests: expected results are the spec's vectors (95_test_vectors.md), under the example instantiation of
00_scope.md R16; then a witness for each statement that has hypotheses. -/

namespace Sys2Proof.Tests

open Sys2Proof.Machine

/-- A ready block with the example configuration and the given key. -/
def ready (key : Byte) : State := { State.reset with cfg := Config.sample, key := key }

/-- The next state of an outcome, if it has one. -/
def nextOf : Outcome → Option State
  | .next s => some s
  | _ => none

/-- The fault of an outcome, if it has one. -/
def faultOf : Outcome → Option Fault
  | .fault f => some f
  | _ => none

/-- The refusal of an outcome, if it has one. -/
def refusalOf : Outcome → Option Refusal
  | .refused r => some r
  | _ => none

/-- The response of an answered receive. -/
def received : Except Fault Response → Option Response
  | .ok r => some r
  | .error _ => none

def frame1 : List Byte := [0x02, 0x01, 0x00, 0x11, 0x05, 0xAA, 0xE7]

/-! ## WellFormed: one ill-formed term for each check -/

theorem test_crc8_len17_illFormed : ¬ WellFormed (.crc8 17 zeroBuf) := by decide
theorem test_crc8_len16_wellFormed : WellFormed (.crc8 16 zeroBuf) := by decide
theorem test_decode_len17_illFormed : ¬ WellFormed (.decode 17 zeroBuf) := by decide
theorem test_send_len31_wellFormed : WellFormed (.send 0 31 zeroBuf) := by decide
theorem test_badConfig_refused : ¬ ({ Config.sample with moduleAll := 0x03 } : Config).Legal := by decide
theorem test_badSentinel_refused : ¬ ({ Config.sample with invalidLocation := 0x02 } : Config).Legal := by decide

/-! ## Decoding: CMD and fields written out from R61 to R63 -/

theorem test_decode_receive : decodeTableWord 8 0b00000001 = some .receive := by decide
theorem test_decode_send : decodeTableWord 48 0xAA2000000202 = some (.send 0x02 0 (bufOfBytes [0x51, 0x05])) := by decide
theorem test_decode_rekey : decodeTableWord 24 0x050003 = some (.rekey 0x05) := by decide
theorem test_decode_crc8 :
    decodeTableWord 168 (0x04 + 16 * 2 ^ 32 + 0x01 * 2 ^ 37 + 0x7F * 2 ^ 157) =
      some (.crc8 16 (bufOfBytes [1, 0, 0, 0, 0, 0, 0, 0, 0, 0, 0, 0, 0, 0, 0, 0x7F])) := by decide
theorem test_decode_encode : decodeTableWord 40 0x1F00090405 = some (.encode 0x04 0x09 31 zeroBuf) := by decide
theorem test_decode_decode : decodeTableWord 40 0x0700000006 = some (.decode 7 zeroBuf) := by decide
theorem test_decode_resolve : decodeTableWord 32 0xFF000007 = some (.resolve 0xFF) := by decide

/-- V-IL-1 to V-IL-6 (2.8) and V-CRC-13, V-DE-12, V-RK-5: no command. -/
theorem test_reserved_words_refused :
    [(8, 0x00), (8, 0x08), (8, 0x0F), (8, 0x11), (8, 0xF2), (24, 0x070013), (40, 0x1400000006), (40, 0x1100000004)].map
      (fun q => decodeTableWord q.1 q.2) = List.replicate 8 none := by decide

/-! ## CRC8 (2.1) -/

/-- V-CRC-2 to V-CRC-7. -/
theorem test_crc8_short_vectors :
    [[0x00], [0x01], [0x80], [0xFF], [0x00, 0x01], [0x01, 0x00]].map (crc8 defaultCrcTable) =
      [0x00, 0x07, 0x89, 0xF3, 0x07, 0x15] := by decide

/-- V-CRC-8, V-CRC-9. -/
theorem test_crc8_long_vectors :
    crc8 defaultCrcTable [0x31, 0x32, 0x33, 0x34, 0x35, 0x36, 0x37, 0x38, 0x39] = 0xF4 ∧
    crc8 defaultCrcTable (List.replicate 16 0xFF) = 0xFA := by decide +kernel

/-- V-CRC-12: cells past LEN are ignored. -/
theorem test_crc8_ignores_cells_past_len :
    (nextOf (exec (.crc8 1 (bufOfBytes [0x01, 0x55, 0x66])) (ready 0))).map (·.resp) =
      some { resetResponse with tag := .done, op := 4, crc := 0x07 } := by decide

/-! ## ENCODE (2.2) -/

/-- V-EN-1. -/
theorem test_encode_one_byte :
    (nextOf (exec (.encode 0x02 0x05 1 (bufOfBytes [0xAA])) (ready 0))).map (·.resp) =
      some { resetResponse with tag := .done, op := 5, len := 7, buf := bufOfBytes frame1 } := by decide

/-- V-EN-5 fills the buffer; V-EN-12 is rejected. -/
theorem test_encode_bounds :
    encodeFrame Config.sample 0xFF 10 (bufOfBytes [1, 2, 3, 4, 5, 6, 7, 8, 9, 10]) 0x09 =
      { frame := bufOfBytes [0xFF, 0x01, 0x00, 0x1A, 0x09, 1, 2, 3, 4, 5, 6, 7, 8, 9, 10, 0xA1], length := 16,
        err := .noError } ∧
    encodeFrame Config.sample 0x02 11 zeroBuf 0x05 = { frame := zeroBuf, length := 0, err := .arraySizeError } := by
  decide +kernel

/-! ## DECODE (2.3) -/

/-- V-DE-7: a truncated frame reads 0x00 for its missing bytes, whatever the host left past LEN. -/
theorem test_decode_truncated :
    (nextOf (exec (.decode 7 (bufOfBytes [0x02, 0x01, 0x00, 0x13, 0x05, 0x10, 0x20, 0x77, 0x88])) (ready 0))).map (·.resp) =
      some { resetResponse with
        tag := .done, op := 6, err := .doubleFrameError, dst := 0x02, src := 0x01, ver := 1, size := 3, fkey := 0x05,
        crc := 0x00, len := 3, buf := bufOfBytes [0x10, 0x20, 0x00] } := by decide

/-- V-DE-1, V-DE-2, V-DE-4, V-DE-5, V-DE-6: the errors. -/
theorem test_decode_errors :
    (decodeFrame (bufOfBytes frame1) 7).2 = .noError ∧
    (decodeFrame (bufOfBytes [0x02, 0x01, 0x00, 0x10, 0x05, 0x9E]) 6).2 = .sizingError ∧
    (decodeFrame (bufOfBytes [0x02, 0x01, 0x00, 0x10, 0x05, 0x9E, 0x00]) 7).2 = .doubleFrameError ∧
    (decodeFrame (bufOfBytes [0x02, 0x01, 0x00, 0x1C, 0x05, 0xAA, 0xBB]) 7).2 = .invalidHeaderError ∧
    (decodeFrame (bufOfBytes (frame1 ++ [0x02, 0x01, 0x00, 0x11, 0x05, 0xBB, 0x90])) 14).2 = .doubleFrameError := by
  decide

/-! ## RESOLVE (2.4) -/

/-- V-RS-1 to V-RS-6. -/
theorem test_resolve_vectors :
    [0x00, 0x02, 0x03, 0x04, 0x05, 0xFF].map (resolve Config.sample) = [0x00, 0x02, 0x05, 0x05, 0x05, 0x05] := by decide

theorem test_resolve_response :
    (nextOf (exec (.resolve 0xFF) (ready 0))).map (·.resp) =
      some { resetResponse with tag := .done, op := 7, loc := 0x05 } := by decide

/-! ## RECEIVE (2.5) -/

/-- What a message report says of its frame. -/
def verdict (q : Except Fault Response) : Option ((ErrorKind × Bool) × List Byte × BitVec 5) :=
  (received q).map fun r => ((r.err, r.valid), [r.dst, r.src, cell r.buf 0], r.len)

/-- V-RX-1 to V-RX-4: valid; key error; CRC error; CRC before key. -/
theorem test_receive_verdicts :
    [((0x05 : Byte), (0xE7 : Byte)), (0x09, 0xE7), (0x05, 0xE8), (0x09, 0xE8)].map (fun q =>
      verdict (receiveResult Config.sample q.1 .ok [0x02, 0x01, 0x00, 0x11, 0x05, 0xAA, q.2])) =
    [some ((.noError, true), [0x02, 0x01, 0xAA], 1), some ((.keyError, false), [0x02, 0x01, 0xAA], 1),
     some ((.crcError, false), [0x02, 0x01, 0xAA], 1), some ((.crcError, false), [0x02, 0x01, 0xAA], 1)] := by decide

/-- V-RX-5 to V-RX-7, V-RX-11, V-RX-13 to V-RX-15, V-RX-17: double, structural, truncated and unresolved frames. -/
theorem test_receive_corners :
    [((0x05 : Byte), frame1 ++ [0x02, 0x01, 0x00, 0x11, 0x05, 0xBB, 0x90]),
     (0x09, frame1 ++ [0x02, 0x01, 0x00, 0x11, 0x05, 0xBB, 0x90]),
     (0x05, [0x02, 0x01, 0x00, 0x11, 0x05, 0xAB, 0xE7, 0x02, 0x01, 0x00, 0x11, 0x05, 0xBB, 0x90]),
     (0x05, [0x02, 0x01, 0x00, 0x10, 0x05, 0x9E]),
     (0x05, [0x02, 0x01, 0x00, 0x1C, 0x05, 0xAA, 0xBB]),
     (0x05, [0x02, 0x01, 0x00, 0x10, 0x05, 0x9E, 0x00]),
     (0x05, [0x02, 0x01, 0x00, 0x13, 0x05, 0x10, 0x20]),
     (0x00, [0x04, 0x07, 0x00, 0x11, 0x00, 0xAA, 0x1B])].map (fun q =>
      (received (receiveResult Config.sample q.1 .ok q.2)).map (fun r => (r.err, r.valid, r.dst, r.src, r.len))) =
    [some (.doubleFrameError, true, 0x02, 0x01, 1), some (.doubleFrameError, false, 0x02, 0x01, 1),
     some (.doubleFrameError, false, 0x02, 0x01, 1), some (.sizingError, false, 0, 0, 0),
     some (.invalidHeaderError, false, 0, 0, 0), some (.doubleFrameError, true, 0x02, 0x01, 0),
     some (.doubleFrameError, false, 0x02, 0x01, 3), some (.noError, true, 0x05, 0x05, 1)] := by decide

/-! ## SEND, REKEY (2.6, 2.7) and the controller -/

/-- V-TX-1's first step: the frame in TXBUF, TXLEN, and TxReq's bytes. -/
theorem test_send_accepted :
    (nextOf (exec (.send 0x02 1 (bufOfBytes [0xAA])) (ready 0x05))).map
        (fun t => (t.fsm, t.txbuf, t.txlen, t.requests)) =
      some (.txWait, bufOfBytes frame1, 7, [.tx frame1 7]) := by decide

/-- V-TX-5: a failed restore overrides a failed send; the latches are cleared. -/
theorem test_send_restore_fails :
    (nextOf (step { ready 0x05 with
        fsm := .restoreWait, txbuf := bufOfBytes frame1, txlen := 7, sendst := .hwError,
        env := [answering (.crx false)] })).map (fun t => (t.resp.err, t.txbuf, t.txlen, t.sendst, t.fsm)) =
      some (.initError, zeroBuf, 0, .noError, .idle) := by decide

/-- V-RK-2. -/
theorem test_rekey :
    (nextOf (exec (.rekey 0x09) (ready 0x05))).map (fun t => (t.key, t.resp)) =
      some (0x09, { resetResponse with tag := .done, op := 3 }) := by decide

/-- V-TX-10, V-RX-19, V-RE-3: the three faults. -/
theorem test_faults :
    faultOf (step { ready 0 with fsm := .txWait, env := [answering (.tx .reserved)] }) = some .txStatusReserved ∧
    faultOf (step { ready 0 with fsm := .rxWait, env := [answering (.rx .ok (List.replicate 17 0))] }) =
      some .rxLengthOverCapacity ∧
    faultOf (step { ready 0 with env := [answering (.rx .noData [])] }) = some .unexpectedAnswer := by decide

/-- P5 steps 3 to 6: a bundle held while the port is busy is not accepted in the reset step, and is accepted after it. -/
theorem test_held_bundle_over_reset :
    let held := encodeBundle (.resolve 0x01)
    let busy : State := { ready 0x05 with fsm := .txWait, port := some held, env := [{ quiet with reset := true }] }
    (nextOf (step busy)).map (fun t => (t.key, t.fsm, t.port, t.resp.tag)) = some (0x00, .idle, some held, .none) ∧
    ((nextOf (step busy)).bind (fun t => nextOf (step t))).map (fun t => (t.resp.loc, t.port)) = some (0x01, none) := by
  decide

/-- V-IL-5 through the port: RESP and the refusal mark, no TxReq. -/
theorem test_illegal_bundle_step :
    (nextOf (step (State.withFetchWord (ready 0x05) 8 0xF2))).map (fun t => (t.resp, t.refusals, t.requests, t.key)) =
      some ({ resetResponse with tag := .illegal, op := 2 }, [{ cmd := 0xF2, len := 0 }], [], 0x05) := by decide

/-- A changed held bundle has no move (R176). -/
theorem test_changed_held_bundle :
    refusalOf (step { ready 0 with
        fsm := .rxWait, port := some (encodeBundle .receive), env := [presenting (encodeBundle (.rekey 1))] }) =
      some .heldBundleChanged := by decide

/-- The first step after reset runs a placed word. -/
theorem test_first_step_after_reset :
    (nextOf (step (State.withFetchWord State.reset 24 0x050003))).map (·.key) = some 0x05 ∧
    (nextOf (step (State.withFetchWord State.reset 8 0x01))).map (·.fsm) = some .rxWait := by decide

/-! ## Witnesses: states and operands that meet each statement's hypotheses -/

/-- A step in which the block accepts `i`. -/
def accepting (i : Instr) : State := { ready 0x05 with port := some (encodeBundle i) }

/-- A waiting block to which the transport answers. -/
def answered (f : Fsm) (a : Answer) : State := { ready 0x05 with fsm := f, env := [answering a] }

theorem witness_DecodingInvertsEncoding : WellFormed (.decode 16 zeroBuf) ∧ WellFormed (.send 0xFF 31 zeroBuf) := by decide
theorem witness_OpcodeMapRowByRow :
    (encodeBundle .receive).cmd = 0x01 ∧ (encodeBundle (.send 0 0 zeroBuf)).cmd = 0x02 ∧
    (encodeBundle (.rekey 0)).cmd = 0x03 ∧
    ((encodeBundle (.crc8 16 zeroBuf)).cmd = 0x04 ∧ (encodeBundle (.crc8 16 zeroBuf)).len.toNat ≤ 16) ∧
    (encodeBundle (.encode 0 0 31 zeroBuf)).cmd = 0x05 ∧
    ((encodeBundle (.decode 16 zeroBuf)).cmd = 0x06 ∧ (encodeBundle (.decode 16 zeroBuf)).len.toNat ≤ 16) ∧
    (encodeBundle (.resolve 0)).cmd = 0x07 ∧ (bareBundle 0).cmd = 0x00 ∧
    (0x08 ≤ (bareBundle 0x08).cmd.toNat ∧ (bareBundle 0x0F).cmd.toNat ≤ 0x0F) := by decide
theorem witness_DecodedCommandsAreWellFormed : decodeBundle (encodeBundle (.resolve 0x02)) = .ok (.resolve 0x02) := by decide
theorem witness_UnreadFieldsDoNotMatter :
    let b : Bundle := encodeBundle (.resolve 0x02)
    let b' : Bundle := { b with dest := 0x11, okey := 0x22, len := 31, buf := bufOfBytes [0x33] }
    b.cmd = b'.cmd ∧
    (opcodeOf b.cmd = 2 ∨ opcodeOf b.cmd = 5 → b.dest = b'.dest) ∧
    (opcodeOf b.cmd = 3 ∨ opcodeOf b.cmd = 5 → b.okey = b'.okey) ∧
    (opcodeOf b.cmd = 7 → b.raw = b'.raw) ∧
    (opcodeOf b.cmd = 2 ∨ opcodeOf b.cmd = 4 ∨ opcodeOf b.cmd = 5 ∨ opcodeOf b.cmd = 6 →
      b.len = b'.len ∧ b.buf = b'.buf) ∧ b ≠ b' := by decide
theorem witness_OperandCellsPastLenAreIgnored :
    (2 : BitVec 5).toNat ≤ 2 ∧
    (∀ i, i < (2 : BitVec 5).toNat → cell (bufOfBytes [1, 2, 3]) i = cell (bufOfBytes [1, 2, 9]) i) ∧
    cell (bufOfBytes [1, 2, 3]) 2 ≠ cell (bufOfBytes [1, 2, 9]) 2 := by decide
theorem witness_ChecksummedSequenceIsZero : romRead defaultCrcTable 0 = 0 := by decide
theorem witness_CrcSeesEverySingleByteChange :
    ∃ t : CrcTable, ∀ x y : Byte, romRead t x = romRead t y → x = y :=
  ⟨Vector.ofFn fun r => Vector.ofFn fun k => BitVec.ofNat 8 (16 * r.val + k.val), by
    intro x y h
    have hx := x.isLt
    have hy := y.isLt
    simp only [romRead, Vector.getElem_ofFn] at h
    rw [Nat.div_add_mod, Nat.div_add_mod] at h
    simpa using h⟩
theorem witness_Crc8Completes :
    (accepting (.crc8 16 zeroBuf)).fsm = .idle ∧ (0 : BitVec 5).toNat ≤ 16 ∧ (16 : BitVec 5).toNat ≤ 16 ∧
    16 < (17 : BitVec 5).toNat := by decide
theorem witness_EncodedFrameCellByCell : 10 < (11 : BitVec 5).toNat ∧ (10 : BitVec 5).toNat ≤ 10 := by decide
theorem witness_WholeFrameChecksToZero :
    (10 : BitVec 5).toNat ≤ 10 ∧ romRead Config.sample.crcTable 0 = 0 := by decide
theorem witness_EncodeCompletes : (ready 0x05).fsm = .idle ∧ 10 < (31 : BitVec 5).toNat := by decide
theorem witness_DecodeStepByStep :
    (6 ≤ 6) ∧ (7 ≤ 7 ∧ 10 < sizeNibble (bufOfBytes [0, 0, 0, 0x1B])) ∧
    (7 ≤ 16 ∧ sizeNibble (bufOfBytes [0, 0, 0, 0x1A]) ≤ 10) := by decide
theorem witness_DecodeReportsNoErrorExactly :
    (decodeFrame (bufOfBytes frame1) 7).2 = .noError ∧
    (decodeFrame (bufOfBytes [0, 0, 0, 0x0A]) 16).2 = .noError := by decide
theorem witness_TruncatedFrameReadsZero :
    let bytes : List Byte := [0x02, 0x01, 0x00, 0x13, 0x05, 0x10, 0x20]
    7 ≤ bytes.length ∧ sizeNibble (bufOfBytes bytes) ≤ 10 ∧ bytes.length < sizeNibble (bufOfBytes bytes) + 6 := by decide
theorem witness_DecodeIgnoresTheReservedByte :
    ∀ i, i ≠ 2 → cell (bufOfBytes [1, 2, 3]) i = cell (bufOfBytes [1, 2, 0x7F]) i := by
  intro i hi
  by_cases h : i < 16
  · have : ∀ j : Fin 16, j.val ≠ 2 → cell (bufOfBytes [1, 2, 3]) j.val = cell (bufOfBytes [1, 2, 0x7F]) j.val := by decide
    exact this ⟨i, h⟩ hi
  · simp [cell, List.getD, show 16 ≤ i by omega]
theorem witness_FrameRoundTrip :
    1 ≤ (1 : BitVec 5).toNat ∧ (1 : BitVec 5).toNat ≤ 10 ∧ (10 : BitVec 5).toNat ≤ 10 ∧ (0 : BitVec 5).toNat = 0 := by decide
theorem witness_DecodeCompletes :
    (ready 0).fsm = .idle ∧ (16 : BitVec 5).toNat ≤ 16 ∧ 16 < (17 : BitVec 5).toNat := by decide
theorem witness_ResolveIsARangeCheck :
    (0x02 : Byte).toNat < Config.sample.numModules ∧ Config.sample.numModules ≤ (0x03 : Byte).toNat := by decide
theorem witness_ResolveGivesNoOtherSentinel : Config.sample.Legal := by decide
theorem witness_ResolveCompletes : (ready 0).fsm = .idle := by decide
theorem witness_ReceiveIssuesOnePoll : (ready 0).fsm = .idle := by decide
theorem witness_ReceiveAnswerStep :
    ((answered .rxWait (.rx .ok frame1)).fsm = .rxWait ∧
      Delivers (answered .rxWait (.rx .ok frame1)) (.rx .ok frame1) none) ∧
    (received (receiveResult Config.sample 0x05 .ok frame1)).isSome = true ∧
    (received (receiveResult Config.sample 0x05 .ok (List.replicate 17 0))).isNone = true ∧
    NothingDelivered { ready 0 with fsm := .rxWait, port := some (encodeBundle .receive) } (some (encodeBundle .receive)) := by
  decide
theorem witness_ReceiveOutcomesRowByRow :
    (List.replicate 6 (0 : Byte)).length ≤ 6 ∧ 16 < (List.replicate 17 (0 : Byte)).length ∧
    (7 ≤ 7 ∧ 10 < sizeNibble (bufOfBytes [0, 0, 0, 0x0B, 0, 0, 0])) ∧
    (16 ≤ 16 ∧ sizeNibble (bufOfBytes [0, 0, 0, 0x0A]) ≤ 10) := by decide
theorem witness_ReceiveFromAcceptanceToResponse : (ready 0x05).fsm = .idle := by decide
theorem witness_OverlongSendCompletesAtOnce : (ready 0x05).fsm = .idle ∧ 10 < (11 : BitVec 5).toNat := by decide
theorem witness_SendHandsOverTheFrame : (ready 0x05).fsm = .idle ∧ (10 : BitVec 5).toNat ≤ 10 := by decide
theorem witness_SendAnswerStep :
    (answered .txWait (.tx .timeout)).fsm = .txWait ∧ Delivers (answered .txWait (.tx .timeout)) (.tx .timeout) none ∧
    TxStatus.error? .timeout = some .timeoutError ∧
    Delivers (answered .txWait (.tx .reserved)) (.tx .reserved) none ∧
    NothingDelivered { ready 0 with fsm := .txWait } none := by decide
theorem witness_RestoreAnswerStep :
    (answered .restoreWait (.crx true)).fsm = .restoreWait ∧
    Delivers (answered .restoreWait (.crx true)) (.crx true) none ∧
    NothingDelivered { ready 0 with fsm := .restoreWait } none := by decide
theorem witness_SendFromAcceptanceToResponse :
    (ready 0x05).fsm = .idle ∧ (10 : BitVec 5).toNat ≤ 10 ∧ TxStatus.error? .hwError = some .hwError ∧
    TxStatus.error? .reserved = none := by decide
theorem witness_RekeyCompletes : (ready 0x05).fsm = .idle := by decide
theorem witness_OldKeyFramesFailAfterRekey :
    (ready 0x05).fsm = .idle ∧ 1 ≤ (1 : BitVec 5).toNat ∧ (10 : BitVec 5).toNat ≤ 10 := by decide
theorem witness_OnlyRekeyAndResetWriteKey :
    (∃ t, step (accepting (.rekey 0x09)) = .next t ∧ t.key = 0x09) ∧
    (nextMove (accepting (.rekey 0x09))).reset = false ∧
    (∃ t, step { ready 0x05 with env := [{ quiet with reset := true }] } = .next t ∧ t.key = 0x00) ∧
    (nextMove { ready 0x05 with env := [{ quiet with reset := true }] }).reset = true :=
  ⟨⟨_, rfl, rfl⟩, rfl, ⟨_, rfl, rfl⟩, rfl⟩
theorem witness_StepRunsTheDecodedInstruction :
    Accepts (accepting (.rekey 0x09)) (encodeBundle (.rekey 0x09)) ∧
    decodeBundle (encodeBundle (.rekey 0x09)) = .ok (.rekey 0x09) := by decide
theorem witness_PlacedWordIsRunNext : decodeTableWord 24 0x090003 = some (.rekey 0x09) := by decide
theorem witness_WaitingChangesNothing :
    (NothingDelivered { ready 0 with fsm := .restoreWait, port := some (encodeBundle .receive) } (some (encodeBundle .receive)) ∧
      ({ ready 0 with fsm := .restoreWait } : State).fsm ≠ .idle) ∧
    NothingDelivered (ready 0) none := by decide
theorem witness_UnansweredBlockWaitsForEver :
    (answered .txWait (.tx .ok)).fsm ≠ .idle ∧ ({ ready 0 with fsm := .rxWait } : State).env = [] := by decide
theorem witness_BrokenContractIsAFault :
    (16 < (List.replicate 17 (0 : Byte)).length ∧
      Delivers (answered .rxWait (.rx .ok (List.replicate 17 0))) (.rx .ok (List.replicate 17 0)) none) ∧
    Delivers (answered .txWait (.tx .reserved)) (.tx .reserved) none ∧
    Delivers (answered .idle (.crx true)) (.crx true) none ∧
    (Delivers (answered .rxWait (.tx .ok)) (.tx .ok) none ∧ ∀ st bs, Answer.tx .ok ≠ .rx st bs) ∧
    (Delivers (answered .txWait (.crx true)) (.crx true) none ∧ ∀ st, Answer.crx true ≠ .tx st) ∧
    (Delivers (answered .restoreWait (.tx .ok)) (.tx .ok) none ∧ ∀ ok, Answer.tx .ok ≠ .crx ok) := by
  refine ⟨by decide, by decide, by decide, ⟨by decide, ?_⟩, ⟨by decide, ?_⟩, by decide, ?_⟩ <;> simp
theorem witness_StepFaultsExactlyOnBrokenContract :
    Delivers (answered .txWait (.tx .reserved)) (.tx .reserved) none ∧
    Delivers (answered .rxWait (.rx .ok (List.replicate 17 0))) (.rx .ok (List.replicate 17 0)) none ∧
    Delivers (answered .idle (.crx true)) (.crx true) none := by decide
theorem witness_IllegalBundleIsRefused :
    Accepts { ready 0 with port := some (bareBundle 0x10) } (bareBundle 0x10) ∧ (bareBundle 0x10).cmd.toNat / 16 ≠ 0 ∧
    (bareBundle 0x00).cmd.toNat % 16 = 0 ∧ 8 ≤ (bareBundle 0x08).cmd.toNat % 16 ∧
    ((encodeBundle (.decode 17 zeroBuf)).cmd.toNat % 16 = 6 ∧ 16 < (encodeBundle (.decode 17 zeroBuf)).len.toNat) := by decide
theorem witness_TransitionTable :
    (∃ t, step (accepting .receive) = .next t) ∧ (nextMove (accepting .receive)).reset = false :=
  ⟨⟨_, rfl⟩, rfl⟩
theorem witness_PureCommandsReadNoStateAndWriteOnlyResp :
    WellFormed (.resolve 0x02) ∧ (ready 0x05).fsm = .idle ∧ (ready 0x09).fsm = .idle ∧ (ready 0x05).cfg = (ready 0x09).cfg ∧
    (nextOf (exec (.resolve 0x02) (ready 0x05))).isSome = true ∧
    (nextOf (exec (.resolve 0x02) (ready 0x09))).isSome = true := by
  exact ⟨by decide, by decide, by decide, rfl, by decide, by decide⟩
theorem witness_SessionCommandFrames :
    (∃ t, exec .receive (ready 0) = .next t) ∧ (∃ t, exec (.send 0x02 1 zeroBuf) (ready 0) = .next t) ∧
    (∃ t, exec (.rekey 0x05) (ready 0) = .next t) := ⟨⟨_, rfl⟩, ⟨_, rfl⟩, ⟨_, rfl⟩⟩
theorem witness_ConfigurationIsNeverWritten : ∃ t, step (accepting (.rekey 0x09)) = .next t := ⟨_, rfl⟩
theorem witness_RunRecordsGrowUntilReset :
    (∃ t, step { ready 0 with port := some (bareBundle 0x00) } = .next t) ∧
    (nextMove { ready 0 with port := some (bareBundle 0x00) }).reset = false ∧
    (∃ t, step { ready 0 with env := [{ quiet with reset := true }] } = .next t) ∧
    (nextMove { ready 0 with env := [{ quiet with reset := true }] }).reset = true :=
  ⟨⟨_, rfl⟩, rfl, ⟨_, rfl⟩, rfl⟩
theorem witness_ResetWinsInEveryStep :
    ResetAsserted { ready 0x05 with
      fsm := .txWait, env := [{ reset := true, present := some (encodeBundle .receive), answer := some (.tx .ok) }] }
      (some (encodeBundle .receive)) := by decide

/-- The example block right after reset has the invariant, and so has it with any key. -/
theorem witness_inv_ready (key : Byte) : Inv (ready key) :=
  ⟨show Config.sample.Legal by decide, ⟨rfl, rfl, rfl⟩, Exchanges.start, rfl⟩

theorem witness_EveryStepKeepsTheInvariant : Inv (accepting .receive) ∧ ∃ t, step (accepting .receive) = .next t :=
  ⟨witness_inv_ready 0x05, ⟨_, rfl⟩⟩
theorem witness_NothingButKeyAndRespOutlivesACommand :
    Inv (accepting (.rekey 0x09)) ∧ ∃ t, step (accepting (.rekey 0x09)) = .next t ∧ t.fsm = .idle :=
  ⟨witness_inv_ready 0x05, ⟨_, rfl, rfl⟩⟩
theorem witness_CompleteRunStaysComplete : Complete (ready 0x05) ∧ NothingDelivered (ready 0x05) none := by
  decide

end Sys2Proof.Tests
end

/-! ## The decoder and the numeric codes (30_encoding.md R61 to R66, R79 to R84)

The decoder is described once, by one equation per row of the opcode map (R63) in terms of the two halves of CMD (R61);
`opcode_cases` says the rows are all there is. The statements about the decoder are read off these rows. -/

namespace Sys2Proof

/-! ### The two halves of CMD (R61) -/

theorem toNat_opcodeOf (cmd : Byte) : (opcodeOf cmd).toNat = cmd.toNat % 16 := by
  simp [opcodeOf]

theorem toNat_reservedOf (cmd : Byte) : (reservedOf cmd).toNat = cmd.toNat / 16 := by
  have hlt := cmd.isLt
  simp only [reservedOf, BitVec.extractLsb'_toNat, Nat.shiftRight_eq_div_pow]
  omega

/-- An opcode is one of the seven commands' or reserved (R63). -/
theorem opcode_cases (opc : BitVec 4) :
    opc = 1 ∨ opc = 2 ∨ opc = 3 ∨ opc = 4 ∨ opc = 5 ∨ opc = 6 ∨ opc = 7 ∨ (opc = 0 ∨ 8 ≤ opc.toNat) := by
  revert opc
  decide

/-! ### One equation per row of the opcode map (R63, R66) -/

section DecoderRows

variable {b : Bundle}

theorem decodeBundle_reservedBits (hres : reservedOf b.cmd ≠ 0) : decodeBundle b = .error .reservedBitsSet := by
  simp only [decodeBundle, if_pos hres]

variable (hres : reservedOf b.cmd = 0)
include hres

theorem decodeBundle_receive (hopc : opcodeOf b.cmd = 1) : decodeBundle b = .ok .receive := by
  simp [decodeBundle, hres, hopc]

theorem decodeBundle_send (hopc : opcodeOf b.cmd = 2) : decodeBundle b = .ok (.send b.dest b.len b.buf) := by
  simp [decodeBundle, hres, hopc]

theorem decodeBundle_rekey (hopc : opcodeOf b.cmd = 3) : decodeBundle b = .ok (.rekey b.okey) := by
  simp [decodeBundle, hres, hopc]

theorem decodeBundle_crc8 (hopc : opcodeOf b.cmd = 4) :
    decodeBundle b = if LenInCapacity b.len then .ok (.crc8 b.len b.buf) else .error .lengthOverCapacity := by
  simp [decodeBundle, hres, hopc]

theorem decodeBundle_encode (hopc : opcodeOf b.cmd = 5) : decodeBundle b = .ok (.encode b.dest b.okey b.len b.buf) := by
  simp [decodeBundle, hres, hopc]

theorem decodeBundle_decode (hopc : opcodeOf b.cmd = 6) :
    decodeBundle b = if LenInCapacity b.len then .ok (.decode b.len b.buf) else .error .lengthOverCapacity := by
  simp [decodeBundle, hres, hopc]

theorem decodeBundle_resolve (hopc : opcodeOf b.cmd = 7) : decodeBundle b = .ok (.resolve b.raw) := by
  simp [decodeBundle, hres, hopc]

theorem decodeBundle_reservedOpcode (hopc : opcodeOf b.cmd = 0 ∨ 8 ≤ (opcodeOf b.cmd).toNat) :
    decodeBundle b = .error .reservedOpcode := by
  have hval : (opcodeOf b.cmd).toNat = 0 ∨ 8 ≤ (opcodeOf b.cmd).toNat := hopc.imp_left (congrArg BitVec.toNat)
  simp only [decodeBundle, hres, ne_eq, not_true_eq_false, if_false]
  split
  case h_8 => rfl
  all_goals omega

end DecoderRows

/-! ### The statements about the decoder -/

/-- Settles O6: for each opcode, its row of the map names exactly the fields that are given to agree. -/
theorem unreadFieldsDoNotMatter : Obligations.UnreadFieldsDoNotMatter := by
  intro b b' hcmd hdest hokey hraw hdata
  by_cases hres : reservedOf b.cmd = 0
  · have hres' : reservedOf b'.cmd = 0 := hcmd ▸ hres
    rcases opcode_cases (opcodeOf b.cmd) with hopc | hopc | hopc | hopc | hopc | hopc | hopc | hopc
    · rw [decodeBundle_receive hres hopc, decodeBundle_receive hres' (hcmd ▸ hopc)]
    · obtain ⟨hlen, hbuf⟩ := hdata (.inl hopc)
      rw [decodeBundle_send hres hopc, decodeBundle_send hres' (hcmd ▸ hopc), hdest (.inl hopc), hlen, hbuf]
    · rw [decodeBundle_rekey hres hopc, decodeBundle_rekey hres' (hcmd ▸ hopc), hokey (.inl hopc)]
    · obtain ⟨hlen, hbuf⟩ := hdata (.inr (.inl hopc))
      rw [decodeBundle_crc8 hres hopc, decodeBundle_crc8 hres' (hcmd ▸ hopc), hlen, hbuf]
    · obtain ⟨hlen, hbuf⟩ := hdata (.inr (.inr (.inl hopc)))
      rw [decodeBundle_encode hres hopc, decodeBundle_encode hres' (hcmd ▸ hopc), hdest (.inr hopc),
        hokey (.inr hopc), hlen, hbuf]
    · obtain ⟨hlen, hbuf⟩ := hdata (.inr (.inr (.inr hopc)))
      rw [decodeBundle_decode hres hopc, decodeBundle_decode hres' (hcmd ▸ hopc), hlen, hbuf]
    · rw [decodeBundle_resolve hres hopc, decodeBundle_resolve hres' (hcmd ▸ hopc), hraw hopc]
    · rw [decodeBundle_reservedOpcode hres hopc, decodeBundle_reservedOpcode hres' (hcmd ▸ hopc)]
  · rw [decodeBundle_reservedBits hres, decodeBundle_reservedBits (hcmd ▸ hres)]

/-- Settles O3: each CMD has reserved bits 0 and its row's opcode. -/
theorem opcodeMapRowByRow : Obligations.OpcodeMapRowByRow := by
  intro b
  refine ⟨fun h => ?_, fun h => ?_, fun h => ?_, fun h hlen => ?_, fun h => ?_, fun h hlen => ?_, fun h => ?_,
    fun h => ?_, fun hlow hhigh => ?_⟩
  · exact decodeBundle_receive (h ▸ rfl) (h ▸ rfl)
  · exact decodeBundle_send (h ▸ rfl) (h ▸ rfl)
  · exact decodeBundle_rekey (h ▸ rfl) (h ▸ rfl)
  · rw [decodeBundle_crc8 (h ▸ rfl) (h ▸ rfl), if_pos hlen]
  · exact decodeBundle_encode (h ▸ rfl) (h ▸ rfl)
  · rw [decodeBundle_decode (h ▸ rfl) (h ▸ rfl), if_pos hlen]
  · exact decodeBundle_resolve (h ▸ rfl) (h ▸ rfl)
  · exact ⟨_, decodeBundle_reservedOpcode (h ▸ rfl) (.inl (h ▸ rfl))⟩
  · have hres : reservedOf b.cmd = 0 := BitVec.eq_of_toNat_eq ((toNat_reservedOf _).trans (Nat.div_eq_of_lt (by omega)))
    have hopc : 8 ≤ (opcodeOf b.cmd).toNat := by rw [toNat_opcodeOf]; omega
    exact ⟨_, decodeBundle_reservedOpcode hres (.inr hopc)⟩

end Sys2Proof

/-! ### The numeric codes (R26, R70, R79) and the transport's statuses (R81, R82, R84) -/

namespace Sys2Proof.Machine

/-- Codes 10 to 15 are never written (R79). -/
theorem ErrorKind.code_toNat_le (e : ErrorKind) : e.code.toNat ≤ 9 := by
  cases e <;> decide

/-- Settles O9: the lists by evaluation of the code tables, the bound by `ErrorKind.code_toNat_le`. -/
theorem numericCodes : Obligations.NumericCodes :=
  ⟨rfl, ErrorKind.code_toNat_le, rfl, rfl⟩

/-- Settles O34: every clause is about closed codes, and the tables evaluate to it. -/
theorem transportStatusCodes : Obligations.TransportStatusCodes :=
  ⟨rfl, rfl, rfl, rfl, rfl, rfl⟩

end Sys2Proof.Machine

/-! ### The CRC engine (40_crc_engine.md) -/

namespace Sys2Proof.Machine

@[simp] theorem crc8_nil (t : CrcTable) : crc8 t [] = 0x00 := rfl

/-- The accumulator runs through a sequence in order (R90): a last byte is one more table read. -/
@[simp] theorem crc8_append_singleton (t : CrcTable) (s : List Byte) (b : Byte) :
    crc8 t (s ++ [b]) = romRead t (crc8 t s ^^^ b) :=
  List.foldl_concat (crcStep t) 0x00 b s

/-- Settles O10: its two equations are `crc8_nil` and `crc8_append_singleton`. -/
theorem crc8ReadsTheTablePerByte : Obligations.Crc8ReadsTheTablePerByte :=
  fun t => ⟨crc8_nil t, crc8_append_singleton t⟩

end Sys2Proof.Machine

/-! ### The frame codec (41_frame_codec.md)

Both functions are described by what they leave in each cell: the encoded frame is one laid-out sequence of bytes, the parsed
payload is a slice of the raw buffer. -/

namespace Sys2Proof.Machine

/-! #### encode (R100) -/

/-- VERSION and a legal LEN do not overlap in frame byte 3 (R76). -/
theorem toNat_versionSizeByte {version : BitVec 4} {len : BitVec 5} (h : len.toNat ≤ 10) :
    (versionSizeByte version len).toNat = version.toNat * 16 + len.toNat := by
  have hver := version.isLt
  have hor := Nat.shiftLeft_add_eq_or_of_lt (show len.toNat < 2 ^ 4 by omega) version.toNat
  rw [versionSizeByte, BitVec.toNat_or, BitVec.toNat_shiftLeft, BitVec.toNat_setWidth, BitVec.toNat_setWidth,
    Nat.mod_eq_of_lt (show version.toNat < 2 ^ 8 by omega), Nat.mod_eq_of_lt (show len.toNat < 2 ^ 8 by omega),
    Nat.mod_eq_of_lt (by rw [Nat.shiftLeft_eq]; omega), ← hor, Nat.shiftLeft_eq]

/-- An operand byte: BUF below LEN, 0x00 from LEN on (R44). -/
theorem getD_operandBytes (len : BitVec 5) (buf : Buf) (j : Nat) :
    (operandBytes len buf).getD j 0 = if j < len.toNat then cell buf j else 0 := by
  rw [operandBytes, getD_cells, Nat.zero_add]

/-- The body of an encoding: the bytes its CRC covers. -/
def encodedBody (c : Config) (dest key : Byte) (len : BitVec 5) (buf : Buf) : List Byte :=
  frameBody c dest len (operandBytes len buf) key

/-- The bytes of an encoded frame: the body, then its checksum. -/
def encodedBytes (c : Config) (dest key : Byte) (len : BitVec 5) (buf : Buf) : List Byte :=
  encodedBody c dest key len buf ++ [crc8 c.crcTable (encodedBody c dest key len buf)]

section EncodedFrame

variable {c : Config} {dest key : Byte} {len : BitVec 5} {buf : Buf} (h : len.toNat ≤ 10)
include h

theorem length_encodedBody : (encodedBody c dest key len buf).length = 5 + len.toNat := by
  rw [encodedBody, length_frameBody, length_operandBytes, min_eq_left (by omega)]

theorem length_encodedBytes : (encodedBytes c dest key len buf).length = len.toNat + 6 := by
  rw [encodedBytes, List.length_append, length_encodedBody h, List.length_singleton]
  omega

theorem encodeFrame_err : (encodeFrame c dest len buf key).err = .noError := by
  rw [encodeFrame_short h]

theorem toNat_encodeFrame_length : (encodeFrame c dest len buf key).length.toNat = len.toNat + 6 := by
  rw [encodeFrame_short h, BitVec.toNat_add]
  exact Nat.mod_eq_of_lt (by simp; omega)

theorem encodeFrame_frame : (encodeFrame c dest len buf key).frame = bufOfBytes (encodedBytes c dest key len buf) := by
  rw [encodeFrame_short h, encodedBytes, encodedBody]

/-- The frame's cells are its bytes, and then 0x00: no byte of a frame is past the buffer's end. -/
theorem cell_encodeFrame (i : Nat) :
    cell (encodeFrame c dest len buf key).frame i = (encodedBytes c dest key len buf).getD i 0 := by
  rw [encodeFrame_frame h, cell_bufOfBytes]
  split
  · rfl
  · rw [List.getD_eq_default _ _ (by rw [length_encodedBytes h]; omega)]

theorem cell_encodeFrame_payload {j : Nat} (hj : j < len.toNat) :
    cell (encodeFrame c dest len buf key).frame (5 + j) = cell buf j := by
  rw [cell_encodeFrame h, encodedBytes, List.getD_append _ _ _ _ (by rw [length_encodedBody h]; omega), encodedBody,
    frameBody, List.getD_append_right _ _ _ _ (Nat.le_add_right 5 j)]
  change (operandBytes len buf).getD (5 + j - 5) 0 = _
  rw [Nat.add_sub_cancel_left, getD_operandBytes, if_pos hj]

/-- The cells before the checksum are the body. -/
theorem cells_encodeFrame_body :
    cells (encodeFrame c dest len buf key).frame 0 (5 + len.toNat) = encodedBody c dest key len buf := by
  rw [encodeFrame_frame h, cells_bufOfBytes _ _ (by rw [length_encodedBytes h]; omega) (by omega), encodedBytes,
    ← length_encodedBody h, List.take_left]

theorem cell_encodeFrame_crc : cell (encodeFrame c dest len buf key).frame (5 + len.toNat) =
    crc8 c.crcTable (cells (encodeFrame c dest len buf key).frame 0 (5 + len.toNat)) := by
  rw [cells_encodeFrame_body h, cell_encodeFrame h, encodedBytes,
    List.getD_append_right _ _ _ _ (length_encodedBody h).le, length_encodedBody h, Nat.sub_self]
  rfl

theorem cell_encodeFrame_tail {i : Nat} (hi : len.toNat + 6 ≤ i) :
    cell (encodeFrame c dest len buf key).frame i = 0x00 := by
  rw [cell_encodeFrame h, List.getD_eq_default _ _ (by rwa [length_encodedBytes h])]

end EncodedFrame

/-- Settles O15: the two branches of encode; a header cell is an entry of `encodedBytes`, read off by evaluation. -/
theorem encodedFrameCellByCell : Obligations.EncodedFrameCellByCell := by
  refine fun c dest key len buf => ⟨encodeFrame_long, fun h => ?_⟩
  have hcell := cell_encodeFrame (c := c) (dest := dest) (key := key) (buf := buf) h
  have hbyte3 : cell (encodeFrame c dest len buf key).frame 3 = versionSizeByte c.version len := hcell 3
  exact ⟨encodeFrame_err h, toNat_encodeFrame_length h, hcell 0, hcell 1, hcell 2,
    hbyte3 ▸ toNat_versionSizeByte h, hcell 4, fun _ => cell_encodeFrame_payload h, cell_encodeFrame_crc h,
    fun _ => cell_encodeFrame_tail h⟩

/-! #### decode (R104 to R107) -/

@[simp] theorem parseBody_crc (raw : Buf) : (parseBody raw).crc = cell raw (sizeNibble raw + 5) := rfl

@[simp] theorem parseBody_plen_toNat (raw : Buf) : (parseBody raw).plen.toNat = sizeNibble raw :=
  BitVec.toNat_setWidth_of_le (by decide)

/-- The parsed payload is raw[5 .. 5 + size), and 0x00 past it (R107). -/
theorem cell_parseBody_payload {raw : Buf} (hsize : sizeNibble raw ≤ 10) (j : Nat) :
    cell (parseBody raw).payload j = if j < sizeNibble raw then cell raw (5 + j) else 0x00 := by
  change cell (bufOfBytes (cells raw 5 (sizeNibble raw + 5))) j = _
  rw [cell_bufOfBytes, getD_cells]
  by_cases hj : j < sizeNibble raw
  · rw [if_pos (by omega), if_pos (by omega), if_pos hj]
  · rw [if_neg (show ¬ 5 + j < sizeNibble raw + 5 by omega), ite_self, if_neg hj]

/-- Settles O18: one clause per way out of decode; on the last one the fields are those of `parseBody`. -/
theorem decodeStepByStep : Obligations.DecodeStepByStep := by
  refine fun raw n => ⟨decodeFrame_short, fun hn hsize => ?_, fun hn hsize => ?_⟩
  · rw [decodeFrame_badHeader hn hsize]
    exact ⟨rfl, rfl⟩
  · rw [decodeFrame_body hn hsize]
    have hpayload := cell_parseBody_payload hsize
    exact ⟨(ite_not ..).symm, rfl, rfl, toNat_reservedOf (cell raw 3), toNat_opcodeOf (cell raw 3), rfl, rfl,
      parseBody_plen_toNat raw, fun j hj => (hpayload j).trans (if_pos hj),
      fun j hj => (hpayload j).trans (if_neg hj.not_gt)⟩

end Sys2Proof.Machine

/-! ### The message session (42_session.md)

A step of the block is first read as the function it calls on the settled state: `consumeAnswer` where the transport delivers,
`acceptBundle` where nothing does. What RECEIVE reports is read off the verdict on a parsed frame. -/

namespace Sys2Proof.Machine

/-! #### One step, by what reaches the block (R120 to R124) -/

section SettledStep

variable {s : State} {p : Option Bundle}

/-- Once the port is settled, the step is the block's. -/
theorem step_eq_blockStep (hport : portAfter s.port (nextMove s).present = some p) :
    step s = blockStep (nextMove s) (settled s p) := by
  have htaken : portAfter (takeMove s).port (nextMove s).present = some p := hport
  simp only [step, cycle, htaken, setPort_takeMove]

theorem step_of_delivers {a : Answer} (h : Delivers s a p) : step s = consumeAnswer a (settled s p) := by
  obtain ⟨hreset, hanswer, hport⟩ := h
  simp [step_eq_blockStep hport, blockStep, hreset, hanswer]

theorem step_of_nothingDelivered (h : NothingDelivered s p) : step s = acceptBundle (settled s p) := by
  obtain ⟨hreset, hanswer, hport⟩ := h
  simp [step_eq_blockStep hport, blockStep, hreset, hanswer]

theorem acceptBundle_busy (hbusy : s.fsm ≠ .idle) : acceptBundle s = .next s :=
  if_neg hbusy

/-- A wait without an answer changes nothing in the block; the presented bundle stays held (R60, R124). -/
theorem step_waits (hbusy : s.fsm ≠ .idle) (h : NothingDelivered s p) : step s = .next (settled s p) := by
  rw [step_of_nothingDelivered h]
  exact acceptBundle_busy hbusy

theorem step_rxAnswer {status : RxStatus} {bytes : List Byte} (hfsm : s.fsm = .rxWait)
    (h : Delivers s (.rx status bytes) p) : step s = finishReceive status bytes (settled s p) := by
  simp [step_of_delivers h, consumeAnswer, settled, hfsm]

theorem step_txAnswer {status : TxStatus} (hfsm : s.fsm = .txWait) (h : Delivers s (.tx status) p) :
    step s = captureSend status (settled s p) := by
  simp [step_of_delivers h, consumeAnswer, settled, hfsm]

theorem step_crxAnswer {ok : Bool} (hfsm : s.fsm = .restoreWait) (h : Delivers s (.crx ok) p) :
    step s = finishSend ok (settled s p) := by
  simp [step_of_delivers h, consumeAnswer, settled, hfsm]

end SettledStep

/-! #### The three answer steps (R121 to R123) -/

theorem finishReceive_ok {status : RxStatus} {bytes : List Byte} {s : State} {r : Response}
    (h : receiveResult s.cfg s.key status bytes = .ok r) :
    finishReceive status bytes s = .next (setFsm .idle (respond r s)) := by
  simp only [finishReceive, h]

theorem finishReceive_error {status : RxStatus} {bytes : List Byte} {s : State} {f : Fault}
    (h : receiveResult s.cfg s.key status bytes = .error f) : finishReceive status bytes s = .fault f := by
  simp only [finishReceive, h]

theorem captureSend_defined {status : TxStatus} {e : ErrorKind} (h : status.error? = some e) (s : State) :
    captureSend status s = .next (setFsm .restoreWait (issue .crx (captureStatus e s))) := by
  simp only [captureSend, h]

theorem captureSend_reserved (s : State) : captureSend .reserved s = .fault .txStatusReserved := rfl

/-- Settles O28: no answer is a wait; an answer is `finishReceive` of the settled state, whose KEY and configuration are
the state's own. -/
theorem receiveAnswerStep : Obligations.ReceiveAnswerStep := by
  refine ⟨fun s p hfsm h => step_waits (by simp [hfsm]) h,
    fun s status bytes p hfsm h => ⟨fun r hr => ?_, fun f hf => ?_⟩⟩
  · rw [step_rxAnswer hfsm h]
    exact finishReceive_ok (s := settled s p) hr
  · rw [step_rxAnswer hfsm h]
    exact finishReceive_error (s := settled s p) hf

/-- Settles O33: no answer is a wait; an answer is `captureSend` of the settled state, by whether its status is defined. -/
theorem sendAnswerStep : Obligations.SendAnswerStep := by
  refine ⟨fun s p hfsm h => step_waits (by simp [hfsm]) h,
    fun s status p hfsm h => ⟨fun e he => ?_, fun hreserved => ?_⟩⟩
  · rw [step_txAnswer hfsm h]
    exact captureSend_defined he _
  · rw [step_txAnswer hfsm h, hreserved, captureSend_reserved]

/-- Settles O35: no answer is a wait; an answer is `finishSend` of the settled state. -/
theorem restoreAnswerStep : Obligations.RestoreAnswerStep := by
  refine ⟨fun s p hfsm h => step_waits (by simp [hfsm]) h, fun s ok p hfsm h => ?_⟩
  rw [step_crxAnswer hfsm h]
  rfl

/-! #### The acceptance of a SEND (R141 to R143) -/

theorem execSend_long {dest : Byte} {len : BitVec 5} {buf : Buf} {s : State} (hidle : s.fsm = .idle)
    (hlen : 10 < len.toNat) : execSend dest len buf s = .next (respond (doneResponse 0x2 .arraySizeError) s) := by
  simp only [execSend, whenReady_idle hidle, if_pos hlen]

/-- A frame's length is LEN + 6, as bits and as a number: 16 fits in 5 bits. -/
theorem execSend_short {dest : Byte} {len : BitVec 5} {buf : Buf} {s : State} (hidle : s.fsm = .idle)
    (hlen : len.toNat ≤ 10) :
    execSend dest len buf s = .next (setFsm .txWait
      (issue (.tx (cells (encodeFrame s.cfg dest len buf s.key).frame 0 (len.toNat + 6)) (len + 6))
        (loadLatch (encodeFrame s.cfg dest len buf s.key).frame (len + 6) s))) := by
  have hbits : (encodeFrame s.cfg dest len buf s.key).length = len + 6 := by rw [encodeFrame_short hlen]
  simp only [execSend, whenReady_idle hidle, if_neg hlen.not_gt, toNat_encodeFrame_length hlen, hbits]

/-- Settles O31: the overlong branch of SEND writes only RESP. -/
theorem overlongSendCompletesAtOnce : Obligations.OverlongSendCompletesAtOnce :=
  fun _ _ _ _ hidle hlen => execSend_long hidle hlen

/-- Settles O32: the other branch of SEND; LEN + 6 bytes are within the buffer's 16. -/
theorem sendHandsOverTheFrame : Obligations.SendHandsOverTheFrame := by
  refine fun dest len buf s hidle hlen => ⟨execSend_short hidle hlen, ?_⟩
  rw [length_cells]
  omega

/-! #### receive_result (R131 to R138) -/

/-- An error found first stays, and NoError adds nothing to it (R161). -/
theorem firstError_noError (e : ErrorKind) : firstError e .noError = e := by
  cases e <;> rfl

/-- A double frame keeps its error; on any other frame the failed check is reported (R136, R137). -/
theorem firstError_doubleFrame (double : Prop) [Decidable double] (later : ErrorKind) :
    firstError (if double then .doubleFrameError else .noError) later =
      if double then .doubleFrameError else later := by
  split <;> rfl

/-- The verdict on a whole frame: VALID says that both checks pass, and of the errors the first one detected is reported. -/
theorem frameVerdict_parseBody (t : CrcTable) (key : Byte) (raw : Buf) (e : ErrorKind) :
    frameVerdict t key raw (parseBody raw) e =
      (decide (crc8 t (cells raw 0 (sizeNibble raw + 5)) = cell raw (sizeNibble raw + 5) ∧ cell raw 4 = key),
        firstError e (if crc8 t (cells raw 0 (sizeNibble raw + 5)) ≠ cell raw (sizeNibble raw + 5) then .crcError
          else if cell raw 4 ≠ key then .keyError else .noError)) := by
  have hpasses : crcPasses t raw (parseBody raw) =
      (crc8 t (cells raw 0 (sizeNibble raw + 5)) == cell raw (sizeNibble raw + 5)) := rfl
  by_cases hcrc : crc8 t (cells raw 0 (sizeNibble raw + 5)) = cell raw (sizeNibble raw + 5)
  · by_cases hkey : cell raw 4 = key
    · simp [frameVerdict, hpasses, hcrc, hkey, firstError_noError]
    · simp [frameVerdict, hpasses, hcrc, hkey]
  · simp [frameVerdict, hpasses, hcrc]

/-- The response to a whole frame reports its header and payload beside the verdict, whatever the verdict is (R138). -/
theorem messageResponse_parseBody (c : Config) (key : Byte) (raw : Buf) (e : ErrorKind) :
    messageResponse c key raw (parseBody raw) e =
      messageReport c raw (frameVerdict c.crcTable key raw (parseBody raw) e).1
        (frameVerdict c.crcTable key raw (parseBody raw) e).2 := by
  rw [messageReport, sizeNibble, BitVec.ofNat_toNat, Nat.add_comm 5]
  rfl

section BufferResult

variable {bytes : List Byte} (c : Config) (key : Byte)

theorem bufferResult_short (hlen : bytes.length ≤ 6) : bufferResult c key bytes = failedReceive .sizingError := by
  rw [bufferResult, decodeFrame_short hlen]

theorem bufferResult_badHeader (hlen : 6 < bytes.length) (hsize : 10 < sizeNibble (bufOfBytes bytes)) :
    bufferResult c key bytes = failedReceive .invalidHeaderError := by
  rw [bufferResult, decodeFrame_badHeader hlen hsize]

/-- A buffer that passes both structural checks is reported; its length decides only whether it is a double frame. -/
theorem bufferResult_body (hlen : 6 < bytes.length) (hsize : sizeNibble (bufOfBytes bytes) ≤ 10) :
    bufferResult c key bytes = messageResponse c key (bufOfBytes bytes) (parseBody (bufOfBytes bytes))
      (if bytes.length ≠ sizeNibble (bufOfBytes bytes) + 6 then .doubleFrameError else .noError) := by
  have hindex : crcIndex (bufOfBytes bytes) = sizeNibble (bufOfBytes bytes) + 5 := rfl
  rw [bufferResult, decodeFrame_body hlen hsize, hindex]
  by_cases hdouble : bytes.length = sizeNibble (bufOfBytes bytes) + 6
  · rw [if_pos (by omega), if_neg (not_not.mpr hdouble)]
  · rw [if_neg (by omega), if_pos hdouble]

theorem receiveResult_ok_long (hlen : 16 < bytes.length) :
    receiveResult c key .ok bytes = .error .rxLengthOverCapacity :=
  if_pos hlen

theorem receiveResult_ok_short (hlen : bytes.length ≤ 16) :
    receiveResult c key .ok bytes = .ok (bufferResult c key bytes) :=
  if_neg hlen.not_gt

end BufferResult

/-- Settles O29: the rows by status and by the branch decode takes; on the last row the reported error is the double frame's
or, on a frame of the right length, the failed check's. -/
theorem receiveOutcomesRowByRow : Obligations.ReceiveOutcomesRowByRow := by
  refine fun c key bytes => ⟨rfl, rfl, rfl, fun hlen => ?_, receiveResult_ok_long c key, fun hlow hhigh hsize => ?_,
    fun hlow hhigh hsize => ?_⟩
  · rw [receiveResult_ok_short c key (by omega), bufferResult_short c key hlen]
    rfl
  · rw [receiveResult_ok_short c key hhigh, bufferResult_badHeader c key hlow hsize]
    rfl
  · rw [receiveResult_ok_short c key hhigh, bufferResult_body c key hlow hsize, messageResponse_parseBody,
      frameVerdict_parseBody, firstError_doubleFrame]

/-! #### Who writes KEY (R148) -/

/-- No answer of the transport writes KEY: RECEIVE's and SEND's last steps only read it (R121 to R123). -/
theorem consumeAnswer_key {a : Answer} {s t : State} (h : consumeAnswer a s = .next t) : t.key = s.key := by
  obtain ⟨st, bs, -, -, hrx⟩ | ⟨st, -, -, htx⟩ | ⟨ok, -, -, hcrx⟩ | hbad := consumeAnswer_cases a s
  · rw [hrx] at h
    obtain ⟨r, -, hr⟩ | ⟨f, -, hf⟩ := finishReceive_cases st bs s
    · cases hr.symm.trans h; rfl
    · cases hf.symm.trans h
  · rw [htx] at h
    obtain ⟨e, -, he⟩ | ⟨-, hf⟩ := captureSend_cases st s
    · cases he.symm.trans h; rfl
    · cases hf.symm.trans h
  · cases hcrx.symm.trans h; rfl
  · cases hbad.symm.trans h

/-- A command that changes KEY is a REKEY, and it writes its OKEY (R146). -/
theorem exec_key {i : Instr} {s t : State} (h : exec i s = .next t) : t.key = s.key ∨ i = .rekey t.key := by
  obtain rfl | ⟨-, ⟨r, rfl⟩ | ⟨c, rfl⟩ | ⟨-, rfl⟩ | ⟨k, rfl, rfl⟩ | ⟨_, _, _, _, -, -, -, rfl⟩⟩ := exec_next_cases h
  · exact .inl rfl
  · exact .inl rfl
  · exact .inl rfl
  · exact .inl rfl
  · exact .inr rfl
  · exact .inl rfl

/-- Accepting a bundle changes KEY only if the bundle spells a REKEY. -/
theorem acceptBundle_key {s t : State} (h : acceptBundle s = .next t) :
    t.key = s.key ∨ ∃ b, s.fsm = .idle ∧ s.port = some b ∧ decodeBundle b = .ok (.rekey t.key) := by
  obtain ⟨-, hnone⟩ | ⟨b, i, hidle, hport, hdecode, hexec⟩ | ⟨b, e, -, -, -, hrefuse⟩ := acceptBundle_cases s
  · cases hnone.symm.trans h
    exact .inl rfl
  · obtain hkey | rfl := exec_key (hexec.symm.trans h)
    · exact .inl hkey
    · exact .inr ⟨b, hidle, hport, hdecode⟩
  · cases hrefuse.symm.trans h
    exact .inl rfl

/-- Settles O39: of the ways a step can go, reset clears KEY, an answer leaves it, and the command port writes it only for an
accepted REKEY. -/
theorem onlyRekeyAndResetWriteKey : Obligations.OnlyRekeyAndResetWriteKey := by
  intro s t h
  obtain ⟨-, hrefused⟩ | ⟨p, hport, ⟨hreset, hstep⟩ | ⟨hreset, a, -, hstep⟩ | ⟨hreset, hanswer, hstep⟩⟩ := step_cases s
  · cases hrefused.symm.trans h
  · cases hstep.symm.trans h
    exact ⟨fun _ => rfl, fun hno => by simp [hreset] at hno⟩
  · exact ⟨fun hyes => by simp [hreset] at hyes, fun _ => .inl (consumeAnswer_key (s := settled s p) (hstep.symm.trans h))⟩
  · refine ⟨fun hyes => by simp [hreset] at hyes, fun _ => ?_⟩
    obtain hkey | ⟨b, hidle, hb, hdecode⟩ := acceptBundle_key (hstep.symm.trans h)
    · exact .inl hkey
    · obtain rfl : p = some b := hb
      exact .inr ⟨b, t.key, ⟨hidle, hport, hreset, hanswer⟩, hdecode, rfl⟩

end Sys2Proof.Machine

/-! ### The Address Resolver (43_address_resolver.md)

`resolve` has two branches, one equation each; a byte's number is compared unsigned. -/

namespace Sys2Proof.Machine

/-- A raw byte in the table's range is its own location (R150). -/
theorem resolve_of_lt {c : Config} {raw : Byte} (hlt : raw.toNat < c.numModules) : resolve c raw = raw :=
  if_pos hlt

/-- A raw byte from NUM_MODULES on has no location (R150). -/
theorem resolve_of_le {c : Config} {raw : Byte} (hle : c.numModules ≤ raw.toNat) : resolve c raw = c.invalidLocation :=
  if_neg hle.not_gt

/-- Settles O24: the two branches of `resolve`, on either side of NUM_MODULES. -/
theorem resolveIsARangeCheck : Obligations.ResolveIsARangeCheck :=
  fun _ _ => ⟨resolve_of_lt, resolve_of_le⟩

end Sys2Proof.Machine

/-! ### Exceptions (60_exceptions.md)

Each breach of the transport's contract (R165) is met in the step that consumes the answer; `consumeAnswer_cases` names
the answers that are expected, and every other one is unexpected. -/

namespace Sys2Proof.Machine

/-- An answer of another kind than the outstanding request's, or one that no request is outstanding for, is not expected
(R86): each of the three ways to consume it needs its own wait state. -/
theorem consumeAnswer_unexpected {a : Answer} {s : State} (hrx : ∀ st bs, a = .rx st bs → s.fsm ≠ .rxWait)
    (htx : ∀ st, a = .tx st → s.fsm ≠ .txWait) (hcrx : ∀ ok, a = .crx ok → s.fsm ≠ .restoreWait) :
    consumeAnswer a s = .fault .unexpectedAnswer := by
  obtain ⟨st, bs, hfsm, ha, -⟩ | ⟨st, hfsm, ha, -⟩ | ⟨ok, hfsm, ha, -⟩ | hfault := consumeAnswer_cases a s
  · exact absurd hfsm (hrx st bs ha)
  · exact absurd hfsm (htx st ha)
  · exact absurd hfsm (hcrx ok ha)
  · exact hfault

section BrokenContract

variable {s : State} {p : Option Bundle}

theorem step_unexpectedAnswer {a : Answer} (h : Delivers s a p) (hrx : ∀ st bs, a = .rx st bs → s.fsm ≠ .rxWait)
    (htx : ∀ st, a = .tx st → s.fsm ≠ .txWait) (hcrx : ∀ ok, a = .crx ok → s.fsm ≠ .restoreWait) :
    step s = .fault .unexpectedAnswer :=
  (step_of_delivers h).trans (consumeAnswer_unexpected (s := settled s p) hrx htx hcrx)

theorem step_rxLengthOverCapacity {bytes : List Byte} (hfsm : s.fsm = .rxWait) (h : Delivers s (.rx .ok bytes) p)
    (hlen : 16 < bytes.length) : step s = .fault .rxLengthOverCapacity :=
  (step_rxAnswer hfsm h).trans (finishReceive_error (receiveResult_ok_long _ _ hlen))

theorem step_txStatusReserved (hfsm : s.fsm = .txWait) (h : Delivers s (.tx .reserved) p) :
    step s = .fault .txStatusReserved :=
  (step_txAnswer hfsm h).trans (captureSend_reserved _)

end BrokenContract

/-- Settles O44: the two malformed answers by their own step lemmas; in the other clauses FSM rules out every kind of answer
but the outstanding request's, and the clause's hypothesis rules out that one. -/
theorem brokenContractIsAFault : Obligations.BrokenContractIsAFault := by
  refine fun s p => ⟨fun bytes => step_rxLengthOverCapacity, step_txStatusReserved, fun a hfsm _ h => ?idle,
    fun a hfsm hkind h => ?rxWait, fun a hfsm hkind h => ?txWait, fun a hfsm hkind h => ?restoreWait⟩
  case idle => exact step_unexpectedAnswer h (by simp [hfsm]) (by simp [hfsm]) (by simp [hfsm])
  case rxWait =>
    exact step_unexpectedAnswer h (fun st bs ha => absurd ha (hkind st bs)) (by simp [hfsm]) (by simp [hfsm])
  case txWait =>
    exact step_unexpectedAnswer h (by simp [hfsm]) (fun st ha => absurd ha (hkind st)) (by simp [hfsm])
  case restoreWait =>
    exact step_unexpectedAnswer h (by simp [hfsm]) (by simp [hfsm]) (fun ok ha => absurd ha (hkind ok))

end Sys2Proof.Machine

/-! ### The reset state (70_reset_and_hazards.md)

FSM alone says whether the port is ready (R60) and which request is outstanding (R26, R80): in IDLE it is, and none is. -/

namespace Sys2Proof.Machine

theorem portReady_of_idle {s : State} (hidle : s.fsm = .idle) : portReady s = true :=
  decide_eq_true hidle

theorem outstanding_of_idle {s : State} (hidle : s.fsm = .idle) : outstanding s = none := by
  simp [outstanding, hidle]

/-- Settles O53: the port and the outstanding request follow from FSM = IDLE, TXBUF is the buffer of zeros, and every other
clause is a field that `State.reset` writes. -/
theorem resetValues : Obligations.ResetValues := by
  have hidle : State.reset.fsm = .idle := rfl
  have htxbuf (i : Nat) (_ : i < 16) : cell State.reset.txbuf i = 0x00 := cell_zeroBuf i
  exact ⟨rfl, hidle, htxbuf, rfl, rfl, rfl, portReady_of_idle hidle, outstanding_of_idle hidle, rfl, rfl⟩

end Sys2Proof.Machine

/-! ## The command port's bits (30_encoding.md R61, R62, R69)

A bundle's bits are the digits of one number, least significant field first. Reading a laid-out bundle gives its fields back
digit by digit; reading loses no bit, so the layout is also the reading's right inverse. -/

namespace Sys2Proof

/-! ### BUF as a number in base 256 -/

/-- BUF's number has the cells for its digits, cell 0 lowest. -/
theorem bufToNat_eq_ofDigits (b : Buf) : bufToNat b = Nat.ofDigits (2 ^ 8) (b.toList.map BitVec.toNat) := by
  rw [bufToNat]
  induction b.toList with
  | nil => rfl
  | cons d ds ih => rw [List.foldr_cons, ih, List.map_cons, Nat.ofDigits_cons]

/-- A cell is a digit in base 256. -/
theorem lt_of_mem_map_toNat {l : List Byte} {d : Nat} (hd : d ∈ l.map BitVec.toNat) : d < 2 ^ 8 := by
  obtain ⟨byte, -, rfl⟩ := List.mem_map.mp hd
  exact byte.isLt

theorem bufToNat_lt (b : Buf) : bufToNat b < 2 ^ 128 := by
  have hlt := Nat.ofDigits_lt_base_pow_length (b := 2 ^ 8) (l := b.toList.map BitVec.toNat) (by decide)
    fun _ => lt_of_mem_map_toNat
  rw [bufToNat_eq_ofDigits]
  simpa [← pow_mul] using hlt

/-- Digit `i` of BUF's number is cell `i`. -/
theorem bufToNat_digit (b : Buf) {i : Nat} (hi : i < 16) : bufToNat b / 2 ^ (8 * i) % 2 ^ 8 = b[i].toNat := by
  rw [bufToNat_eq_ofDigits, pow_mul,
    Nat.ofDigits_div_pow_eq_ofDigits_drop i (by decide) _ fun _ => lt_of_mem_map_toNat,
    List.drop_eq_getElem_cons (by simpa using hi), Nat.ofDigits_cons, Nat.add_mul_mod_self_left,
    Nat.mod_eq_of_lt (lt_of_mem_map_toNat (List.getElem_mem _))]
  simp

/-! ### The layout and its reading -/

/-- The fields of a bundle below BUF, as one number of 37 bits. -/
def headToNat (b : Bundle) : Nat :=
  b.cmd.toNat + 2 ^ 8 * b.dest.toNat + 2 ^ 16 * b.okey.toNat + 2 ^ 24 * b.raw.toNat + 2 ^ 32 * b.len.toNat

theorem headToNat_lt (b : Bundle) : headToNat b < 2 ^ 37 := by
  unfold headToNat
  omega

/-- The fields fill the 165 bits exactly: nothing is cut off. -/
theorem toNat_bundleToBits (b : Bundle) : (bundleToBits b).toNat = headToNat b + 2 ^ 37 * bufToNat b.buf := by
  have hhead := headToNat_lt b
  have hbuf := bufToNat_lt b.buf
  rw [bundleToBits, BitVec.toNat_ofNat, ← headToNat]
  exact Nat.mod_eq_of_lt (by omega)

/-- A field of the port is a run of digits of its number. -/
theorem extract_bundleToBits {b : Bundle} {lo width : Nat} {field : BitVec width}
    (h : (headToNat b + 2 ^ 37 * bufToNat b.buf) / 2 ^ lo % 2 ^ width = field.toNat) :
    (bundleToBits b).extractLsb' lo width = field := by
  apply BitVec.eq_of_toNat_eq
  rw [BitVec.extractLsb'_toNat, toNat_bundleToBits, Nat.shiftRight_eq_div_pow, h]

theorem bundleOfBits_bundleToBits (b : Bundle) : bundleOfBits (bundleToBits b) = b := by
  have hcmd : (bundleToBits b).extractLsb' 0 8 = b.cmd := extract_bundleToBits (by rw [headToNat]; omega)
  have hdest : (bundleToBits b).extractLsb' 8 8 = b.dest := extract_bundleToBits (by rw [headToNat]; omega)
  have hokey : (bundleToBits b).extractLsb' 16 8 = b.okey := extract_bundleToBits (by rw [headToNat]; omega)
  have hraw : (bundleToBits b).extractLsb' 24 8 = b.raw := extract_bundleToBits (by rw [headToNat]; omega)
  have hlen : (bundleToBits b).extractLsb' 32 5 = b.len := extract_bundleToBits (by rw [headToNat]; omega)
  have hbuf : (Vector.ofFn fun i : Fin 16 => (bundleToBits b).extractLsb' (37 + 8 * i.val) 8) = b.buf := by
    ext1 i hi
    rw [Vector.getElem_ofFn]
    apply extract_bundleToBits
    rw [pow_add, ← Nat.div_div_eq_div_mul, Nat.add_mul_div_left _ _ (by decide),
      Nat.div_eq_of_lt (headToNat_lt b), Nat.zero_add, bufToNat_digit b.buf hi]
  rw [bundleOfBits, hcmd, hdest, hokey, hraw, hlen, hbuf]

/-- Two words that agree on a field agree on every bit of it. -/
theorem getLsbD_eq_of_extract_eq {w w' : BitVec 165} {lo width : Nat}
    (h : w.extractLsb' lo width = w'.extractLsb' lo width) {i : Nat} (hlo : lo ≤ i) (hhi : i < lo + width) :
    w.getLsbD i = w'.getLsbD i := by
  have hbit := congrArg (BitVec.getLsbD · (i - lo)) h
  simpa [show i - lo < width by omega, Nat.add_sub_cancel' hlo] using hbit

/-- Every bit of the port is in one of the fields. -/
theorem bundleOfBits_injective : Function.Injective bundleOfBits := by
  intro w w' h
  obtain ⟨hcmd, hdest, hokey, hraw, hlen, hbuf⟩ := Bundle.mk.inj h
  apply BitVec.eq_of_getLsbD_eq
  intro i hi
  by_cases h8 : i < 8
  · exact getLsbD_eq_of_extract_eq hcmd (Nat.zero_le i) h8
  by_cases h16 : i < 16
  · exact getLsbD_eq_of_extract_eq hdest (by omega) h16
  by_cases h24 : i < 24
  · exact getLsbD_eq_of_extract_eq hokey (by omega) h24
  by_cases h32 : i < 32
  · exact getLsbD_eq_of_extract_eq hraw (by omega) h32
  by_cases h37 : i < 37
  · exact getLsbD_eq_of_extract_eq hlen (by omega) h37
  · have hcell : (i - 37) / 8 < 16 := by omega
    have hfield := congrArg (fun buf : Buf => buf[(i - 37) / 8]) hbuf
    simp only [Vector.getElem_ofFn] at hfield
    exact getLsbD_eq_of_extract_eq hfield (by omega) (by omega)

/-- Settles O2: the layout is read back digit by digit, and reading is injective, so the layout undoes it too. -/
theorem portBitsAreTheBundle : Obligations.PortBitsAreTheBundle :=
  ⟨bundleOfBits_bundleToBits, fun _ => bundleOfBits_injective (bundleOfBits_bundleToBits _)⟩

/-! ### Decoding what the encoder writes (R63, R65, R66) -/

/-- The encoder's bundle is on its command's row of the opcode map. -/
theorem decodeBundle_encodeBundle {i : Instr} (hwf : WellFormed i) : decodeBundle (encodeBundle i) = .ok i := by
  obtain ⟨hreceive, hsend, hrekey, hcrc8, hencode, hdecode, hresolve, -, -⟩ := opcodeMapRowByRow (encodeBundle i)
  cases i with
  | receive => exact hreceive rfl
  | send => exact hsend rfl
  | rekey => exact hrekey rfl
  | crc8 => exact hcrc8 rfl (of_decide_eq_true hwf)
  | encode => exact hencode rfl
  | decode => exact hdecode rfl (of_decide_eq_true hwf)
  | resolve => exact hresolve rfl

/-- Settles O1: the port's bits are the encoder's bundle, which is on its command's row of the opcode map. -/
theorem decodingInvertsEncoding : Obligations.DecodingInvertsEncoding := by
  intro i hwf
  rw [decodeBits, encodeBits, bundleOfBits_bundleToBits, decodeBundle_encodeBundle hwf]

/-- Settles O4: each row of the opcode map is refused or not as the halves of CMD and LEN say. -/
theorem bundlesThatSpellNoCommand : Obligations.BundlesThatSpellNoCommand := by
  intro b
  rw [← toNat_reservedOf, ← toNat_opcodeOf]
  by_cases hres : reservedOf b.cmd = 0
  · rcases opcode_cases (opcodeOf b.cmd) with hopc | hopc | hopc | hopc | hopc | hopc | hopc | hopc
    · simp [decodeBundle_receive hres hopc, hres, hopc]
    · simp [decodeBundle_send hres hopc, hres, hopc]
    · simp [decodeBundle_rekey hres hopc, hres, hopc]
    · simp [decodeBundle_crc8 hres hopc, hres, hopc, ite_eq_iff]
    · simp [decodeBundle_encode hres hopc, hres, hopc]
    · simp [decodeBundle_decode hres hopc, hres, hopc, ite_eq_iff]
    · simp [decodeBundle_resolve hres hopc, hres, hopc]
    · have hval : (opcodeOf b.cmd).toNat = 0 ∨ 8 ≤ (opcodeOf b.cmd).toNat := hopc.imp_left (congrArg BitVec.toNat)
      exact iff_of_true ⟨_, decodeBundle_reservedOpcode hres hopc⟩ (.inr (hval.imp_right .inl))
  · exact iff_of_true ⟨_, decodeBundle_reservedBits hres⟩ (.inl fun h => hres (BitVec.eq_of_toNat_eq h))

/-- Settles O5: the two rows with a length condition let nothing ill-formed through; the other commands are well-formed
with every operand. -/
theorem decodedCommandsAreWellFormed : Obligations.DecodedCommandsAreWellFormed := by
  intro b i h
  by_cases hres : reservedOf b.cmd = 0
  · rcases opcode_cases (opcodeOf b.cmd) with hopc | hopc | hopc | hopc | hopc | hopc | hopc | hopc
    · cases (decodeBundle_receive hres hopc).symm.trans h; rfl
    · cases (decodeBundle_send hres hopc).symm.trans h; rfl
    · cases (decodeBundle_rekey hres hopc).symm.trans h; rfl
    · rw [decodeBundle_crc8 hres hopc] at h
      split at h <;> cases h
      exact decide_eq_true ‹_›
    · cases (decodeBundle_encode hres hopc).symm.trans h; rfl
    · rw [decodeBundle_decode hres hopc] at h
      split at h <;> cases h
      exact decide_eq_true ‹_›
    · cases (decodeBundle_resolve hres hopc).symm.trans h; rfl
    · cases (decodeBundle_reservedOpcode hres hopc).symm.trans h
  · cases (decodeBundle_reservedBits hres).symm.trans h

/-- Settles O8: the words are closed, and the decoder evaluates on them. -/
theorem writtenOutWordsDecode : Obligations.WrittenOutWordsDecode := by
  unfold Obligations.WrittenOutWordsDecode
  decide

end Sys2Proof

/-! ## The CRC engine's laws (40_crc_engine.md R91, R93, R94)

The checksum is a fold of table reads, so its laws are laws of one step. The default table is its generator, and a round of
the generator is linear over XOR with no kernel, which makes the table a bijection. -/

namespace Sys2Proof.Machine

/-! ### The default table (R91) -/

/-- Every entry is what the printed loop gives for its index; 256 indices, evaluated. -/
theorem romRead_defaultCrcTable (i : Byte) : romRead defaultCrcTable i = generatedCrcEntry i := by
  revert i
  decide +kernel

/-- Settles O11: the entries by `romRead_defaultCrcTable`, the check value by evaluation. -/
theorem defaultTableIsGenerated : Obligations.DefaultTableIsGenerated :=
  ⟨romRead_defaultCrcTable, by decide +kernel⟩

/-- A round shifts, and subtracts the polynomial when bit 7 falls out: both are linear over XOR. -/
theorem crcTableRound_xor (x y : Byte) : crcTableRound (x ^^^ y) = crcTableRound x ^^^ crcTableRound y := by
  have hshift : (x ^^^ y) <<< 1 = x <<< 1 ^^^ y <<< 1 := BitVec.shiftLeft_xor_distrib ..
  cases hx : x.getLsbD 7 <;> cases hy : y.getLsbD 7 <;> simp only [crcTableRound, BitVec.getLsbD_xor, hshift, hx, hy]
  case false.false => rfl
  case false.true => exact BitVec.xor_assoc ..
  case true.false =>
    change (x <<< 1 ^^^ y <<< 1) ^^^ 7#8 = (x <<< 1 ^^^ 7#8) ^^^ y <<< 1
    ac_rfl
  case true.true =>
    change x <<< 1 ^^^ y <<< 1 = (x <<< 1 ^^^ 7#8) ^^^ (y <<< 1 ^^^ 7#8)
    rw [BitVec.xor_comm (y <<< 1) 7#8, BitVec.xor_assoc, ← BitVec.xor_assoc 7#8, BitVec.xor_self, BitVec.zero_xor]

theorem crcTableRound_eq_zero (x : Byte) (h : crcTableRound x = 0) : x = 0 := by
  revert x
  decide +kernel

theorem crcTableRound_injective : Function.Injective crcTableRound := by
  intro x y h
  have hzero : crcTableRound (x ^^^ y) = 0 := by rw [crcTableRound_xor, h, BitVec.xor_self]; rfl
  exact BitVec.xor_eq_zero_iff.mp (crcTableRound_eq_zero _ hzero)

/-- Eight rounds of a bijection. -/
theorem generatedCrcEntry_injective : Function.Injective generatedCrcEntry :=
  crcTableRound_injective.iterate 8

theorem defaultCrcTable_injective : Function.Injective (romRead defaultCrcTable) := by
  rw [funext romRead_defaultCrcTable]
  exact generatedCrcEntry_injective

/-! ### The fold (R90, R93, R94) -/

section ZeroAtIndexZero

variable {t : CrcTable} (hzero : romRead t 0 = 0)
include hzero

/-- A leading 0x00 leaves the accumulator at 0. -/
theorem crc8_zero_cons (s : List Byte) : crc8 t (0x00 :: s) = crc8 t s := by
  have hstep : crcStep t 0x00 0x00 = 0x00 := hzero
  rw [crc8, List.foldl_cons, hstep, crc8]

/-- The checksum cancels the accumulator: the last read is at index 0. -/
theorem crc8_append_checksum (s : List Byte) : crc8 t (s ++ [crc8 t s]) = 0x00 := by
  rw [crc8_append_singleton, BitVec.xor_self]
  exact hzero

end ZeroAtIndexZero

/-- Settles O12: the default table's first entry by evaluation, the laws by `crc8_zero_cons` and `crc8_append_checksum`. -/
theorem checksummedSequenceIsZero : Obligations.ChecksummedSequenceIsZero :=
  ⟨rfl, fun _ hzero s => ⟨crc8_zero_cons hzero s, crc8_append_checksum hzero s⟩⟩

section BijectiveTable

variable {t : CrcTable} (ht : Function.Injective (romRead t))
include ht

/-- A step tells two accumulators apart under the same byte. -/
theorem crcStep_injective_acc (b : Byte) : Function.Injective (crcStep t · b) :=
  fun _ _ h => (BitVec.xor_left_inj b).mp (ht h)

/-- A step tells two bytes apart from the same accumulator. -/
theorem crcStep_injective_byte (acc : Byte) : Function.Injective (crcStep t acc) :=
  fun _ _ h => (BitVec.xor_right_inj acc).mp (ht h)

/-- Two accumulators that differ still differ after any sequence of bytes. -/
theorem foldl_crcStep_injective (s : List Byte) : Function.Injective (s.foldl (crcStep t) ·) := by
  induction s with
  | nil => exact Function.injective_id
  | cons b s ih => exact ih.comp (crcStep_injective_acc ht b)

/-- From the differing byte on the accumulators differ. -/
theorem crc8_ne_of_ne (before after : List Byte) {x y : Byte} (hxy : x ≠ y) :
    crc8 t (before ++ x :: after) ≠ crc8 t (before ++ y :: after) := by
  intro h
  simp only [crc8, List.foldl_append, List.foldl_cons] at h
  exact hxy (crcStep_injective_byte ht _ (foldl_crcStep_injective ht after h))

end BijectiveTable

/-- Settles O13: the default table is a bijection as its generator is, and `crc8_ne_of_ne` for every table that is one. -/
theorem crcSeesEverySingleByteChange : Obligations.CrcSeesEverySingleByteChange :=
  ⟨fun _ _ h => defaultCrcTable_injective h,
    fun _ ht before after _ _ hxy => crc8_ne_of_ne (fun _ _ h => ht _ _ h) before after hxy⟩

end Sys2Proof.Machine

/-! ## The frame codec's laws (41_frame_codec.md R101, R103, R109 to R113) -/

namespace Sys2Proof.Machine

/-! ### Operands past LEN (20_memory.md R44; 70_reset_and_hazards.md R191) -/

/-- A command's operand bytes depend only on the cells below LEN. -/
theorem operandBytes_congr {len : BitVec 5} {buf buf' : Buf} (h : ∀ i, i < len.toNat → cell buf i = cell buf' i) :
    operandBytes len buf = operandBytes len buf' :=
  cells_congr fun i _ hi => h i hi

/-- Settles O7: each of the four commands reads BUF through its operand bytes alone. -/
theorem operandCellsPastLenAreIgnored : Obligations.OperandCellsPastLenAreIgnored := by
  refine ⟨fun len buf i hi => by rw [cell_operandBuf, if_neg hi.not_gt], fun len buf buf' h dest key s => ?_⟩
  have hbytes := operandBytes_congr h
  have hbuf : operandBuf len buf = operandBuf len buf' := congrArg bufOfBytes hbytes
  have hframe (c : Config) (k : Byte) : encodeFrame c dest len buf k = encodeFrame c dest len buf' k := by
    rw [encodeFrame, encodeFrame, hbytes]
  refine ⟨?_, ?_, ?_, ?_⟩
  · simp only [exec, execSend, hframe]
  · simp only [exec, execCrc8, hbytes]
  · simp only [exec, execEncode, hframe]
  · simp only [exec, execDecode, hbuf]

/-! ### encode -/

section EncodedFrame

variable {c : Config} {dest key : Byte} {len : BitVec 5} {buf : Buf} (h : len.toNat ≤ 10)
include h

/-- The cells of a whole frame are its bytes. -/
theorem cells_encodeFrame_whole :
    cells (encodeFrame c dest len buf key).frame 0 (len.toNat + 6) = encodedBytes c dest key len buf := by
  rw [encodeFrame_frame h, cells_bufOfBytes _ _ (length_encodedBytes h).ge (by omega),
    List.take_of_length_le (length_encodedBytes h).le]

/-- The delivered bytes of a whole frame lay out as the frame itself. -/
theorem bufOfBytes_cells_encodeFrame :
    bufOfBytes (cells (encodeFrame c dest len buf key).frame 0 (len.toNat + 6)) = (encodeFrame c dest len buf key).frame := by
  rw [cells_encodeFrame_whole h, encodeFrame_frame h]

theorem cell_encodeFrame_header :
    cell (encodeFrame c dest len buf key).frame 0 = dest ∧
    cell (encodeFrame c dest len buf key).frame 1 = c.ownLocation ∧
    cell (encodeFrame c dest len buf key).frame 4 = key :=
  ⟨cell_encodeFrame h 0, cell_encodeFrame h 1, cell_encodeFrame h 4⟩

theorem toNat_cell_encodeFrame_three :
    (cell (encodeFrame c dest len buf key).frame 3).toNat = c.version.toNat * 16 + len.toNat := by
  rw [cell_encodeFrame h]
  exact toNat_versionSizeByte h

/-- The high nibble of byte 3 is VERSION (R76). -/
theorem version_encodeFrame : (cell (encodeFrame c dest len buf key).frame 3).extractLsb' 4 4 = c.version := by
  apply BitVec.eq_of_toNat_eq
  have hhigh := toNat_reservedOf (cell (encodeFrame c dest len buf key).frame 3)
  rw [reservedOf, toNat_cell_encodeFrame_three h] at hhigh
  omega

/-- The low nibble of byte 3 is LEN (R76). -/
theorem sizeNibble_encodeFrame : sizeNibble (encodeFrame c dest len buf key).frame = len.toNat := by
  have hlow := toNat_opcodeOf (cell (encodeFrame c dest len buf key).frame 3)
  rw [opcodeOf, toNat_cell_encodeFrame_three h] at hlow
  rw [sizeNibble]
  omega

end EncodedFrame

/-- Settles O16: a frame is its body with the body's checksum appended; byte 3 by its nibbles. -/
theorem wholeFrameChecksToZero : Obligations.WholeFrameChecksToZero := by
  intro c dest key len buf hlen hzero
  refine ⟨?_, version_encodeFrame hlen, sizeNibble_encodeFrame hlen⟩
  rw [cells_encodeFrame_whole hlen, encodedBytes, crc8_append_checksum hzero]

/-! ### decode -/

theorem crcIndex_eq (raw : Buf) : crcIndex raw = sizeNibble raw + 5 := rfl

/-- Settles O19: of the three ways out of decode only the last reports NoError, when the size nibble fits `n`. -/
theorem decodeReportsNoErrorExactly : Obligations.DecodeReportsNoErrorExactly := by
  intro raw n
  have hiff : (decodeFrame raw n).2 = .noError ↔ 6 < n ∧ sizeNibble raw ≤ 10 ∧ sizeNibble raw = n - 6 := by
    by_cases hn : n ≤ 6
    · simp [decodeFrame_short hn, hn.not_gt]
    · by_cases hsize : sizeNibble raw ≤ 10
      · have hfits : crcIndex raw = n - 1 ↔ sizeNibble raw = n - 6 := by rw [crcIndex_eq]; omega
        simp [decodeFrame_body (not_le.mp hn) hsize, hfits, hsize, not_le.mp hn]
      · simp [decodeFrame_badHeader (not_le.mp hn) (not_le.mp hsize), hsize]
  rw [hiff]
  omega

/-- Settles O20: the header promises more than was delivered, and cells past the delivered bytes are 0x00. -/
theorem truncatedFrameReadsZero : Obligations.TruncatedFrameReadsZero := by
  intro bytes hlen hsize hshort
  have hpast (i : Nat) (hi : bytes.length ≤ i) : cell (bufOfBytes bytes) i = 0x00 := by
    rw [cell_bufOfBytes, List.getD_eq_default _ _ hi, ite_self]
  rw [decodeFrame_body hlen hsize, if_neg (by rw [crcIndex_eq]; omega)]
  refine ⟨rfl, (parseBody_crc _).trans (hpast _ (by omega)), fun j hj => ?_⟩
  rw [cell_parseBody_payload hsize, hpast _ hj, ite_self]

/-- Settles O21: decode reads cells 0, 1, 3, 4 and from 5 on. -/
theorem decodeIgnoresTheReservedByte : Obligations.DecodeIgnoresTheReservedByte := by
  intro raw raw' n h
  have hheader : parseHeader raw = parseHeader raw' := by
    simp only [parseHeader, h 0 (by decide), h 1 (by decide), h 3 (by decide), h 4 (by decide)]
  have hindex : crcIndex raw = crcIndex raw' := by simp only [crcIndex, hheader]
  have hpayload : cells raw 5 (crcIndex raw') = cells raw' 5 (crcIndex raw') :=
    cells_congr fun i hi _ => h i (by omega)
  have hcrc : cell raw (crcIndex raw') = cell raw' (crcIndex raw') := h _ (by rw [crcIndex]; omega)
  have hbody : parseBody raw = parseBody raw' := by
    simp only [parseBody, hheader, hindex, hpayload, hcrc]
  simp only [decodeFrame, hheader, hindex, hbody]

/-! ### The round trip (R112) -/

section RoundTrip

variable (c : Config) (dest key : Byte) {len : BitVec 5} (buf : Buf) (h : len.toNat ≤ 10)
include h

/-- The parsed payload of an encoded frame is the operand buffer: BUF below LEN, 0x00 from LEN on. -/
theorem payload_parseBody_encodeFrame :
    (parseBody (encodeFrame c dest len buf key).frame).payload = operandBuf len buf := by
  have hsize := sizeNibble_encodeFrame (c := c) (dest := dest) (key := key) (buf := buf) h
  apply buf_ext
  intro i _
  rw [cell_parseBody_payload (by omega), hsize, cell_operandBuf]
  split
  case isTrue hi => exact cell_encodeFrame_payload h hi
  case isFalse => rfl

theorem parseBody_encodeFrame : parseBody (encodeFrame c dest len buf key).frame =
    { dst := dest, src := c.ownLocation, ver := c.version, size := BitVec.ofNat 4 len.toNat, key := key,
      crc := cell (encodeFrame c dest len buf key).frame (5 + len.toNat), plen := len,
      payload := operandBuf len buf } := by
  obtain ⟨hdest, hsrc, hkey⟩ := cell_encodeFrame_header (c := c) (dest := dest) (key := key) (buf := buf) h
  have hsize := sizeNibble_encodeFrame (c := c) (dest := dest) (key := key) (buf := buf) h
  have hnibble : (parseBody (encodeFrame c dest len buf key).frame).size = BitVec.ofNat 4 len.toNat := by
    rw [parseBody_size, ← hsize, sizeNibble, BitVec.ofNat_toNat, BitVec.setWidth_eq]
  have hplen : (parseBody (encodeFrame c dest len buf key).frame).plen = len :=
    BitVec.eq_of_toNat_eq (by rw [parseBody_plen_toNat, hsize])
  have hcrc : (parseBody (encodeFrame c dest len buf key).frame).crc =
      cell (encodeFrame c dest len buf key).frame (5 + len.toNat) := by
    rw [parseBody_crc, hsize, Nat.add_comm]
  exact (ParsedFrame.mk.injEq ..).mpr ⟨hdest, hsrc, version_encodeFrame h, hnibble, hkey, hcrc, hplen,
    payload_parseBody_encodeFrame c dest key buf h⟩

end RoundTrip

/-- Settles O22: a frame of 1 to 10 payload bytes passes decode's checks, its CRC index being its last byte's; a frame of
no payload is too short for them. -/
theorem frameRoundTrip : Obligations.FrameRoundTrip := by
  refine fun c dest key len buf => ⟨fun hlow hhigh => ⟨?_, ?_⟩, fun _ => decodeFrame_short le_rfl⟩
  · have hsize := sizeNibble_encodeFrame (c := c) (dest := dest) (key := key) (buf := buf) hhigh
    rw [decodeFrame_body (by omega) (hsize.trans_le hhigh), parseBody_encodeFrame c dest key buf hhigh,
      if_pos (by rw [crcIndex_eq, hsize]; omega)]
  · rw [Nat.add_comm, cell_encodeFrame_crc hhigh]

end Sys2Proof.Machine

/-! ## The commands that complete at once (40_crc_engine.md R95; 41_frame_codec.md R101, R113; 43_address_resolver.md;
42_session.md R130, R146)

In IDLE the guard of a command is passed, and the command is its one write of the state. -/

namespace Sys2Proof.Machine

/-! ### The address resolver's range (R151) -/

/-- INVALID_LOCATION is out of the table's range, and so resolves to itself. -/
theorem resolve_invalidLocation {c : Config} (hlegal : c.Legal) : resolve c c.invalidLocation = c.invalidLocation := by
  obtain ⟨-, -, -, -, hinvalid, -, -, -⟩ := hlegal
  exact resolve_of_le hinvalid

/-- No byte resolves to a sentinel other than INVALID_LOCATION: a resolved byte is in the table's range or is that one. -/
theorem resolve_ne_sentinel {c : Config} {sentinel : Byte} (hrange : c.numModules ≤ sentinel.toNat)
    (hne : sentinel ≠ c.invalidLocation) (raw : Byte) : resolve c raw ≠ sentinel := by
  by_cases hraw : raw.toNat < c.numModules
  · rw [resolve_of_lt hraw]
    rintro rfl
    omega
  · rw [resolve_of_le (not_lt.mp hraw)]
    exact hne.symm

/-- A resolved byte is a location the block may report (R151), whatever the constants are. -/
theorem located_resolve (c : Config) (raw : Byte) : Located c (resolve c raw) := by
  by_cases hraw : raw.toNat < c.numModules
  · rw [resolve_of_lt hraw]
    exact .inl hraw
  · exact .inr (resolve_of_le (not_lt.mp hraw))

/-- Settles O25: the sentinels are out of the table's range, and a resolved byte is a valid location, which resolves to
itself, or INVALID_LOCATION, which does too. -/
theorem resolveGivesNoOtherSentinel : Obligations.ResolveGivesNoOtherSentinel := by
  intro c raw hlegal
  have hinvalid := resolve_invalidLocation hlegal
  obtain ⟨-, -, hnone, hall, -, -, hnoneNe, hallNe⟩ := hlegal
  have hlocated := located_resolve c raw
  have htwice : resolve c (resolve c raw) = resolve c raw := by
    obtain hvalid | hsentinel := hlocated
    · exact resolve_of_lt hvalid
    · rw [hsentinel, hinvalid]
  exact ⟨resolve_ne_sentinel hnone hnoneNe raw, resolve_ne_sentinel hall hallNe raw, hlocated,
    resolve_of_le hnone, resolve_of_le hall, hinvalid, htwice⟩

/-! ### One equation per command that does not wait -/

section InIdle

variable {s : State} (hidle : s.fsm = .idle)
include hidle

theorem execCrc8_inCapacity {len : BitVec 5} {buf : Buf} (hlen : len.toNat ≤ 16) : execCrc8 len buf s =
    .next (respond { doneResponse 0x4 .noError with crc := crc8 s.cfg.crcTable (operandBytes len buf) } s) := by
  rw [execCrc8, whenReady_idle hidle, if_neg hlen.not_gt]

theorem execCrc8_overCapacity {len : BitVec 5} {buf : Buf} (hlen : 16 < len.toNat) :
    execCrc8 len buf s = .next (refuseBundle { cmd := 0x04, len := len } s) := by
  rw [execCrc8, whenReady_idle hidle, if_pos hlen]

theorem execDecode_inCapacity {len : BitVec 5} {buf : Buf} (hlen : len.toNat ≤ 16) :
    execDecode len buf s = .next (respond (decodeResponse (decodeFrame (operandBuf len buf) len.toNat)) s) := by
  rw [execDecode, whenReady_idle hidle, if_neg hlen.not_gt]

theorem execDecode_overCapacity {len : BitVec 5} {buf : Buf} (hlen : 16 < len.toNat) :
    execDecode len buf s = .next (refuseBundle { cmd := 0x06, len := len } s) := by
  rw [execDecode, whenReady_idle hidle, if_pos hlen]

theorem execEncode_idle (dest key : Byte) (len : BitVec 5) (buf : Buf) :
    execEncode dest key len buf s = .next (respond (encodeResponse (encodeFrame s.cfg dest len buf key)) s) :=
  whenReady_idle hidle

theorem execResolve_idle (raw : Byte) :
    execResolve raw s = .next (respond { doneResponse 0x7 .noError with loc := resolve s.cfg raw } s) :=
  whenReady_idle hidle

theorem execReceive_idle : execReceive s = .next (setFsm .rxWait (issue (.rx 16) s)) :=
  whenReady_idle hidle

theorem execRekey_idle (newKey : Byte) :
    execRekey newKey s = .next (respond (doneResponse 0x3 .noError) (setKey newKey s)) :=
  whenReady_idle hidle

end InIdle

/-- Settles O14: LEN within the capacity responds, LEN over it is refused. -/
theorem crc8Completes : Obligations.Crc8Completes :=
  fun _ _ _ hidle => ⟨execCrc8_inCapacity hidle, execCrc8_overCapacity hidle⟩

/-- Settles O23: LEN within the capacity responds, LEN over it is refused. -/
theorem decodeCompletes : Obligations.DecodeCompletes :=
  fun _ _ _ hidle => ⟨execDecode_inCapacity hidle, execDecode_overCapacity hidle⟩

/-- Settles O17: ENCODE writes encode's answer to RESP; for an overlong payload that is `encodeFrame_long`. -/
theorem encodeCompletes : Obligations.EncodeCompletes := by
  refine fun dest key len buf s hidle => ⟨execEncode_idle hidle dest key len buf, fun hlen => ?_⟩
  rw [exec, execEncode_idle hidle, encodeFrame_long hlen]
  rfl

/-- Settles O26: RESOLVE writes the range check's answer to LOC. -/
theorem resolveCompletes : Obligations.ResolveCompletes :=
  fun raw _ hidle => execResolve_idle hidle raw

/-- Settles O27: RECEIVE places one request and waits. -/
theorem receiveIssuesOnePoll : Obligations.ReceiveIssuesOnePoll :=
  fun _ hidle => execReceive_idle hidle

/-- Settles O37: REKEY writes KEY and RESP. -/
theorem rekeyCompletes : Obligations.RekeyCompletes :=
  fun newKey _ hidle => execRekey_idle hidle newKey

/-! ### What the commands read and leave alone (R49, R120, R124) -/

/-- A well-formed command other than the session's three does nothing but respond, and its response is a function of its
operands and the configuration. -/
theorem exec_leaf {i : Instr} (hwf : WellFormed i) (hsend : ∀ dest len buf, i ≠ .send dest len buf) (hreceive : i ≠ .receive)
    (hrekey : ∀ k, i ≠ .rekey k) :
    ∃ response : Config → Response, ∀ s : State, s.fsm = .idle → exec i s = .next (respond (response s.cfg) s) := by
  cases i with
  | receive => exact absurd rfl hreceive
  | send dest len buf => exact absurd rfl (hsend dest len buf)
  | rekey newKey => exact absurd rfl (hrekey newKey)
  | crc8 len buf =>
    exact ⟨fun c => { doneResponse 0x4 .noError with crc := crc8 c.crcTable (operandBytes len buf) },
      fun _ hidle => execCrc8_inCapacity hidle (of_decide_eq_true hwf)⟩
  | encode dest key len buf =>
    exact ⟨fun c => encodeResponse (encodeFrame c dest len buf key), fun _ hidle => execEncode_idle hidle dest key len buf⟩
  | decode len buf =>
    exact ⟨fun _ => decodeResponse (decodeFrame (operandBuf len buf) len.toNat),
      fun _ hidle => execDecode_inCapacity hidle (of_decide_eq_true hwf)⟩
  | resolve raw =>
    exact ⟨fun c => { doneResponse 0x7 .noError with loc := resolve c raw }, fun _ hidle => execResolve_idle hidle raw⟩

/-- Settles O49: both states get the one response that the configuration determines. -/
theorem pureCommandsReadNoStateAndWriteOnlyResp : Obligations.PureCommandsReadNoStateAndWriteOnlyResp := by
  intro i hwf hsend hreceive hrekey s s' t t' hidle hidle' hcfg h h'
  obtain ⟨response, hresponse⟩ := exec_leaf hwf hsend hreceive hrekey
  cases (hresponse s hidle).symm.trans h
  cases (hresponse s' hidle').symm.trans h'
  exact ⟨congrArg response hcfg, rfl⟩

/-- Settles O50: a busy port changes nothing; in IDLE each command is its one equation, SEND one of two. -/
theorem sessionCommandFrames : Obligations.SessionCommandFrames := by
  intro s t
  by_cases hidle : s.fsm = .idle
  · refine ⟨fun h => ?_, fun dest len buf h => ?_, fun newKey h => ?_⟩
    · cases (execReceive_idle hidle).symm.trans h
      rfl
    · by_cases hlen : 10 < len.toNat
      · cases (execSend_long hidle hlen).symm.trans h
        exact .inl rfl
      · cases (execSend_short hidle (not_lt.mp hlen)).symm.trans h
        exact .inr rfl
    · cases (execRekey_idle hidle newKey).symm.trans h
      rfl
  · have hsame (i : Instr) (h : exec i s = .next t) : t = s := by
      cases (exec_busy hidle).symm.trans h
      rfl
    refine ⟨fun h => ?_, fun dest len buf h => .inl ?_, fun newKey h => ?_⟩ <;> cases hsame _ h <;> rfl

end Sys2Proof.Machine

/-! ## The forms of a response (30_encoding.md R70, R72, R73; 60_exceptions.md R160)

Every response a command writes meets `RespInv`, whatever the registers hold: one lemma per command. Only RECEIVE's needs
legal constants, for the location 0 of a frame that is not reported. -/

namespace Sys2Proof.Machine

/-! ### Cells at index >= LEN -/

theorem tailZero_zeroBuf (len : BitVec 5) : TailZero len zeroBuf :=
  fun i _ => cell_zeroBuf i

theorem tailZero_encodeFrame {c : Config} {dest key : Byte} {len : BitVec 5} {buf : Buf} (h : len.toNat ≤ 10) :
    TailZero (encodeFrame c dest len buf key).length (encodeFrame c dest len buf key).frame := by
  intro i hi
  rw [toNat_encodeFrame_length h] at hi
  exact cell_encodeFrame_tail h hi

theorem tailZero_parseBody {raw : Buf} (hsize : sizeNibble raw ≤ 10) :
    TailZero (parseBody raw).plen (parseBody raw).payload := by
  intro i hi
  rw [parseBody_plen_toNat] at hi
  rw [cell_parseBody_payload hsize, if_neg hi.not_gt]

/-! ### The commands that complete at once -/

theorem respInv_arraySizeError (c : Config) : RespInv c (doneResponse 0x2 .arraySizeError) :=
  ⟨tailZero_zeroBuf _, rfl, by decide⟩

theorem respInv_rekey (c : Config) : RespInv c (doneResponse 0x3 .noError) :=
  ⟨tailZero_zeroBuf _, rfl⟩

theorem respInv_crc8 (c : Config) (crc : Byte) : RespInv c { doneResponse 0x4 .noError with crc := crc } :=
  ⟨tailZero_zeroBuf _, rfl⟩

theorem respInv_encode (c : Config) (dest key : Byte) (len : BitVec 5) (buf : Buf) :
    RespInv c (encodeResponse (encodeFrame c dest len buf key)) := by
  by_cases hlen : len.toNat ≤ 10
  · have hlength := toNat_encodeFrame_length (c := c) (dest := dest) (key := key) (buf := buf) hlen
    have hform : encodeResponse (encodeFrame c dest len buf key) =
        { doneResponse 0x5 .noError with
          len := (encodeFrame c dest len buf key).length, buf := (encodeFrame c dest len buf key).frame } := by
      rw [encodeResponse, encodeFrame_err hlen]
    refine ⟨tailZero_encodeFrame hlen, .inr ⟨hform, ?_, ?_⟩⟩
    · rw [encodeResponse_len]; omega
    · rw [encodeResponse_len]; omega
  · rw [encodeFrame_long (not_le.mp hlen)]
    exact ⟨tailZero_zeroBuf _, .inl rfl⟩

/-- What decode answers is a response DECODE may give, on each of its ways out. -/
theorem respInv_decode (c : Config) (raw : Buf) (n : Nat) : RespInv c (decodeResponse (decodeFrame raw n)) := by
  by_cases hn : n ≤ 6
  · rw [decodeFrame_short hn]
    exact ⟨tailZero_zeroBuf _, rfl, by decide, by decide⟩
  · by_cases hsize : sizeNibble raw ≤ 10
    · rw [decodeFrame_body (not_le.mp hn) hsize]
      refine ⟨tailZero_parseBody hsize, rfl, ?_, (parseBody_plen_toNat raw).trans_le hsize⟩
      rw [decodeResponse_err]
      split <;> simp
    · rw [decodeFrame_badHeader (not_le.mp hn) (not_le.mp hsize)]
      exact ⟨tailZero_zeroBuf _, rfl, by simp, by simp⟩

theorem respInv_resolve (c : Config) (raw : Byte) :
    RespInv c { doneResponse 0x7 .noError with loc := resolve c raw } :=
  ⟨tailZero_zeroBuf _, rfl, located_resolve c raw⟩

theorem respInv_illegal (c : Config) (opc : BitVec 4) : RespInv c (illegalResponse opc) := rfl

/-- SEND's last response: the captured status or InitError (R144). -/
theorem respInv_send (c : Config) {captured : ErrorKind} (h : SendStatus captured) (ok : Bool) :
    RespInv c (doneResponse 0x2 (sendError ok captured)) := by
  refine ⟨tailZero_zeroBuf _, rfl, ?_⟩
  rw [doneResponse_err]
  cases ok
  · simp [sendError]
  · obtain rfl | rfl | rfl := h <;> simp [sendError]

/-! ### RECEIVE (R131 to R139) -/

/-- Location 0 is valid under legal constants: NUM_MODULES is at least 1 (R8). -/
theorem located_zero {c : Config} (hlegal : c.Legal) : Located c 0 := by
  obtain ⟨hpos, -⟩ := hlegal
  exact .inl hpos

/-- The verdict on a frame that decode let through (R135 to R137, R161): its errors, and that VALID goes with NoError and
may go with a double frame. -/
theorem frameVerdict_form (t : CrcTable) (key : Byte) (raw : Buf) (pf : ParsedFrame) (double : Prop) [Decidable double] :
    let verdict := frameVerdict t key raw pf (if double then .doubleFrameError else .noError)
    verdict.2 ∈ [ErrorKind.noError, .doubleFrameError, .crcError, .keyError] ∧
      (verdict.1 = true → verdict.2 = .noError ∨ verdict.2 = .doubleFrameError) ∧
      (verdict.2 = .noError → verdict.1 = true) := by
  unfold frameVerdict
  split_ifs <;> decide

theorem respInv_failedReceive {c : Config} (hlegal : c.Legal) {e : ErrorKind}
    (he : e ∈ [ErrorKind.hwError, .timeoutError, .sizingError, .invalidHeaderError]) : RespInv c (failedReceive e) := by
  have hzero := located_zero hlegal
  simp only [List.mem_cons, List.not_mem_nil, or_false] at he
  obtain rfl | rfl | rfl | rfl := he <;>
    exact ⟨tailZero_zeroBuf _, rfl, by decide, by decide, by decide, by decide, by decide, hzero, hzero⟩

theorem respInv_messageResponse (c : Config) (key : Byte) {raw : Buf} (hsize : sizeNibble raw ≤ 10)
    (double : Prop) [Decidable double] :
    RespInv c (messageResponse c key raw (parseBody raw) (if double then .doubleFrameError else .noError)) := by
  obtain ⟨herr, hvalid, hclean⟩ := frameVerdict_form c.crcTable key raw (parseBody raw) double
  refine ⟨tailZero_parseBody hsize, rfl, (show [ErrorKind.noError, .doubleFrameError, .crcError, .keyError] ⊆ _ by decide) herr,
    (parseBody_plen_toNat raw).trans_le hsize, fun h => ⟨rfl, hvalid h⟩, by simp, fun _ => hclean,
    located_resolve c _, located_resolve c _⟩

theorem respInv_bufferResult {c : Config} (hlegal : c.Legal) (key : Byte) (bytes : List Byte) :
    RespInv c (bufferResult c key bytes) := by
  by_cases hlen : bytes.length ≤ 6
  · rw [bufferResult_short c key hlen]
    exact respInv_failedReceive hlegal (by decide)
  · by_cases hsize : sizeNibble (bufOfBytes bytes) ≤ 10
    · rw [bufferResult_body c key (not_le.mp hlen) hsize]
      exact respInv_messageResponse c key hsize _
    · rw [bufferResult_badHeader c key (not_le.mp hlen) (not_le.mp hsize)]
      exact respInv_failedReceive hlegal (by decide)

theorem respInv_noData {c : Config} (hlegal : c.Legal) : RespInv c (doneResponse 0x1 .noError) := by
  have hzero := located_zero hlegal
  exact ⟨tailZero_zeroBuf _, rfl, by decide, by decide, by simp, fun _ => rfl, by simp, hzero, hzero⟩

theorem respInv_receiveResult {c : Config} (hlegal : c.Legal) {key : Byte} {status : RxStatus} {bytes : List Byte}
    {r : Response} (h : receiveResult c key status bytes = .ok r) : RespInv c r := by
  cases status with
  | noData => cases h; exact respInv_noData hlegal
  | hwError => cases h; exact respInv_failedReceive hlegal (by decide)
  | timeout => cases h; exact respInv_failedReceive hlegal (by decide)
  | ok =>
    by_cases hlen : bytes.length ≤ 16
    · cases (receiveResult_ok_short c key hlen).symm.trans h
      exact respInv_bufferResult hlegal key bytes
    · cases (receiveResult_ok_long c key (not_le.mp hlen)).symm.trans h

/-- A command leaves RESP as it was or writes a response of a form it may have. -/
theorem exec_resp {i : Instr} {s t : State} (h : exec i s = .next t) : t.resp = s.resp ∨ RespInv s.cfg t.resp := by
  by_cases hidle : s.fsm = .idle
  · cases i with
    | receive => cases (execReceive_idle hidle).symm.trans h; exact .inl rfl
    | send dest len buf =>
      by_cases hlen : 10 < len.toNat
      · cases (execSend_long hidle hlen).symm.trans h; exact .inr (respInv_arraySizeError _)
      · cases (execSend_short hidle (not_lt.mp hlen)).symm.trans h; exact .inl rfl
    | rekey newKey => cases (execRekey_idle hidle newKey).symm.trans h; exact .inr (respInv_rekey _)
    | crc8 len buf =>
      by_cases hlen : 16 < len.toNat
      · cases (execCrc8_overCapacity hidle hlen).symm.trans h; exact .inr (respInv_illegal _ _)
      · cases (execCrc8_inCapacity hidle (not_lt.mp hlen)).symm.trans h; exact .inr (respInv_crc8 _ _)
    | encode dest key len buf =>
      cases (execEncode_idle hidle dest key len buf).symm.trans h; exact .inr (respInv_encode ..)
    | decode len buf =>
      by_cases hlen : 16 < len.toNat
      · cases (execDecode_overCapacity hidle hlen).symm.trans h; exact .inr (respInv_illegal _ _)
      · cases (execDecode_inCapacity hidle (not_lt.mp hlen)).symm.trans h; exact .inr (respInv_decode ..)
    | resolve raw => cases (execResolve_idle hidle raw).symm.trans h; exact .inr (respInv_resolve ..)
  · cases (exec_busy hidle).symm.trans h; exact .inl rfl

end Sys2Proof.Machine

/-! ## What a step can do (42_session.md R120 to R124; 60_exceptions.md; 70_reset_and_hazards.md R181)

`step_effect` says once what the block can do to the settled state in a step without reset: it is one of the nine arrows of
`Effect`. The statements about every step are read off these arrows. -/

namespace Sys2Proof.Machine

/-! ### Steps by what reaches the block -/

section SettledStep

variable {s : State}

theorem step_of_reset {p : Option Bundle} (h : ResetAsserted s p) : step s = .next (resetBlock (settled s p)) := by
  obtain ⟨hreset, hport⟩ := h
  rw [step_eq_blockStep hport, blockStep, if_pos hreset]

theorem acceptBundle_empty (hport : s.port = none) : acceptBundle s = .next s := by
  simp [acceptBundle, hport]

theorem acceptBundle_ok {b : Bundle} {i : Instr} (hidle : s.fsm = .idle) (hport : s.port = some b)
    (hdecode : decodeBundle b = .ok i) : acceptBundle s = exec i (setPort none s) := by
  simp [acceptBundle, hidle, hport, hdecode]

theorem acceptBundle_error {b : Bundle} {r : DecodeReject} (hidle : s.fsm = .idle) (hport : s.port = some b)
    (hdecode : decodeBundle b = .error r) :
    acceptBundle s = .next (refuseBundle { cmd := b.cmd, len := b.len } (setPort none s)) := by
  simp [acceptBundle, hidle, hport, hdecode]

theorem step_of_accepts {b : Bundle} (h : Accepts s b) : step s = acceptBundle (settled s (some b)) := by
  obtain ⟨-, hport, hreset, hanswer⟩ := h
  exact step_of_nothingDelivered ⟨hreset, hanswer, hport⟩

theorem step_runs {b : Bundle} {i : Instr} (h : Accepts s b) (hdecode : decodeBundle b = .ok i) :
    step s = exec i (settled s none) := by
  have hidle := h.1
  exact (step_of_accepts h).trans (acceptBundle_ok (s := settled s (some b)) hidle rfl hdecode)

end SettledStep

/-- Settles O40: `settled s none` is the state without the bundle and the move. -/
theorem stepRunsTheDecodedInstruction : Obligations.StepRunsTheDecodedInstruction :=
  fun _ _ _ => step_runs

theorem decodeBundle_tableBundle {nbits w : Nat} {i : Instr} (h : decodeTableWord nbits w = some i) :
    decodeBundle (tableBundle nbits w) = .ok i := by
  have hbits : decodeBits (portBits nbits w) = decodeBundle (tableBundle nbits w) := rfl
  rw [decodeTableWord, hbits] at h
  split at h
  case h_1 j hdecode => cases h; exact hdecode
  case h_2 => cases h

/-- Settles O41: the placed bundle is accepted in the quiet move placed before the environment's. -/
theorem placedWordIsRunNext : Obligations.PlacedWordIsRunNext := by
  intro s nbits w i h
  have haccepts : Accepts (s.withFetchWord nbits w) (tableBundle nbits w) := ⟨rfl, rfl, rfl, rfl⟩
  exact step_runs haccepts (decodeBundle_tableBundle h)

theorem step_empty {s : State} (h : NothingDelivered s none) : step s = .next (settled s none) :=
  (step_of_nothingDelivered h).trans (acceptBundle_empty (s := settled s none) rfl)

/-- Settles O42: a busy block waits, and a ready one has nothing to accept. -/
theorem waitingChangesNothing : Obligations.WaitingChangesNothing := by
  intro s p h hcase
  obtain hbusy | rfl := hcase
  · exact step_waits hbusy h
  · exact step_empty h

/-- Settles O58: with nothing presented the step takes the environment's move and no more, and what was not to come before
is not to come now. -/
theorem completeRunStaysComplete : Obligations.CompleteRunStaysComplete := by
  intro s hcomplete hnothing
  obtain ⟨hidle, -, hrefusals, hport, henv⟩ := hcomplete
  have hsettled : settled s none = { s with env := s.env.tail } := by rw [settled, ← hport]
  refine ⟨hsettled ▸ step_empty hnothing, hidle, outstanding_of_idle hidle, hrefusals, hport, fun m hm => ?_⟩
  exact henv m (List.mem_of_mem_tail hm)

/-- Settles O54: the reset step is `resetBlock` of the settled state, whose port and configuration are kept. -/
theorem resetWinsInEveryStep : Obligations.ResetWinsInEveryStep := by
  intro s p h
  have hidle : (resetBlock (settled s p)).fsm = .idle := rfl
  exact ⟨_, step_of_reset h, rfl, hidle, portReady_of_idle hidle, fun i _ => cell_zeroBuf i, rfl, rfl, rfl, rfl, rfl,
    outstanding_of_idle hidle, rfl⟩

/-- Settles O47: the listed bundles are those the decoder refuses, and the step is the refusal. -/
theorem illegalBundleIsRefused : Obligations.IllegalBundleIsRefused := by
  intro s b haccepts hillegal
  obtain ⟨r, hdecode⟩ := (bundlesThatSpellNoCommand b).mpr hillegal
  have hidle := haccepts.1
  refine ⟨_, (step_of_accepts haccepts).trans (acceptBundle_error (s := settled s (some b)) hidle rfl hdecode), rfl, ?_⟩
  rw [refuseBundle_refusals]
  exact List.mem_append_right _ (List.mem_singleton.mpr rfl)

/-! ### Faults and refusals (R165, R176) -/

/-- The one breach receive_result can meet: an over-long buffer delivered as OK (R43). -/
theorem receiveResult_error {c : Config} {key : Byte} {status : RxStatus} {bytes : List Byte} {f : Fault}
    (h : receiveResult c key status bytes = .error f) :
    f = .rxLengthOverCapacity ∧ status = .ok ∧ 16 < bytes.length := by
  cases status with
  | noData => cases h
  | hwError => cases h
  | timeout => cases h
  | ok =>
    by_cases hlen : bytes.length ≤ 16
    · cases (receiveResult_ok_short c key hlen).symm.trans h
    · cases (receiveResult_ok_long c key (not_le.mp hlen)).symm.trans h
      exact ⟨rfl, rfl, not_le.mp hlen⟩

theorem finishReceive_fault {status : RxStatus} {bytes : List Byte} {s : State} {f : Fault}
    (h : finishReceive status bytes s = .fault f) : f = .rxLengthOverCapacity ∧ status = .ok ∧ 16 < bytes.length := by
  obtain ⟨r, -, hr⟩ | ⟨f', herror, hf⟩ := finishReceive_cases status bytes s
  · cases hr.symm.trans h
  · cases hf.symm.trans h
    exact receiveResult_error herror

theorem captureSend_fault {status : TxStatus} {s : State} {f : Fault} (h : captureSend status s = .fault f) :
    f = .txStatusReserved ∧ status = .reserved := by
  obtain ⟨e, -, he⟩ | ⟨hreserved, hf⟩ := captureSend_cases status s
  · cases he.symm.trans h
  · cases hf.symm.trans h
    exact ⟨rfl, hreserved⟩

/-- An answer of the outstanding request's kind is not the unexpected one: the steps that consume it fault otherwise. -/
theorem consumeAnswer_expected {a : Answer} {s : State} (h : consumeAnswer a s = .fault .unexpectedAnswer) :
    (∀ st bs, a = .rx st bs → s.fsm ≠ .rxWait) ∧ (∀ st, a = .tx st → s.fsm ≠ .txWait) ∧
      (∀ ok, a = .crx ok → s.fsm ≠ .restoreWait) := by
  refine ⟨?_, ?_, ?_⟩
  · rintro st bs rfl hfsm
    have hrx : finishReceive st bs s = .fault .unexpectedAnswer := by simpa [consumeAnswer, hfsm] using h
    obtain ⟨hbad, -⟩ := finishReceive_fault hrx
    cases hbad
  · rintro st rfl hfsm
    have htx : captureSend st s = .fault .unexpectedAnswer := by simpa [consumeAnswer, hfsm] using h
    obtain ⟨hbad, -⟩ := captureSend_fault htx
    cases hbad
  · rintro ok rfl hfsm
    simp [consumeAnswer, hfsm, finishSend] at h

/-- Accepting a bundle, or none, always gives a next state. -/
theorem acceptBundle_answers_next (s : State) : ∃ t, acceptBundle s = .next t := by
  obtain ⟨-, hsame⟩ | ⟨b, i, -, -, -, hexec⟩ | ⟨b, e, -, -, -, hrefuse⟩ := acceptBundle_cases s
  · exact ⟨_, hsame⟩
  · rw [hexec]
    exact exec_answers_next _ _
  · exact ⟨_, hrefuse⟩

/-- Consuming an answer gives a next state or a fault. -/
theorem consumeAnswer_ne_refused (a : Answer) (s : State) (r : Refusal) : consumeAnswer a s ≠ .refused r := by
  intro h
  obtain ⟨st, bs, -, -, hrx⟩ | ⟨st, -, -, htx⟩ | ⟨ok, -, -, hcrx⟩ | hbad := consumeAnswer_cases a s
  · obtain ⟨_, -, hr⟩ | ⟨_, -, hf⟩ := finishReceive_cases st bs s
    · cases (hrx.trans hr).symm.trans h
    · cases (hrx.trans hf).symm.trans h
  · obtain ⟨_, -, he⟩ | ⟨-, hf⟩ := captureSend_cases st s
    · cases (htx.trans he).symm.trans h
    · cases (htx.trans hf).symm.trans h
  · cases hcrx.symm.trans h
  · cases hbad.symm.trans h

/-- Settles O45: only a consumed answer can fault; which breach it is follows from the step that consumes it. -/
theorem stepFaultsExactlyOnBrokenContract : Obligations.StepFaultsExactlyOnBrokenContract := by
  refine fun s f => ⟨fun h => ?_, ?_⟩
  · obtain ⟨-, hrefused⟩ | ⟨p, hport, ⟨-, hstep⟩ | ⟨hreset, a, hanswer, hstep⟩ | ⟨-, -, hstep⟩⟩ := step_cases s
    · cases hrefused.symm.trans h
    · cases hstep.symm.trans h
    · refine ⟨a, p, ⟨hreset, hanswer, hport⟩, ?_⟩
      have hconsume : consumeAnswer a (settled s p) = .fault f := hstep.symm.trans h
      obtain ⟨st, bs, hfsm, rfl, hrx⟩ | ⟨st, hfsm, rfl, htx⟩ | ⟨ok, -, -, hcrx⟩ | hbad :=
        consumeAnswer_cases a (settled s p)
      · obtain ⟨hf, rfl, hlen⟩ := finishReceive_fault (hrx.symm.trans hconsume)
        exact .inl ⟨hf, hfsm, bs, rfl, hlen⟩
      · obtain ⟨hf, rfl⟩ := captureSend_fault (htx.symm.trans hconsume)
        exact .inr (.inl ⟨hf, hfsm, rfl⟩)
      · cases hcrx.symm.trans hconsume
      · cases hbad.symm.trans hconsume
        exact .inr (.inr ⟨rfl, consumeAnswer_expected (s := settled s p) hbad⟩)
    · obtain ⟨t, ht⟩ := acceptBundle_answers_next (setPort p (takeMove s))
      cases (hstep.trans ht).symm.trans h
  · rintro ⟨a, p, hdelivers, ⟨rfl, hfsm, bytes, rfl, hlen⟩ | ⟨rfl, hfsm, rfl⟩ | ⟨rfl, hrx, htx, hcrx⟩⟩
    · exact step_rxLengthOverCapacity hfsm hdelivers hlen
    · exact step_txStatusReserved hfsm hdelivers
    · exact step_unexpectedAnswer hdelivers hrx htx hcrx

/-- Settles O46: the port has no move exactly then, and nothing else is refused. -/
theorem stepRefusesExactlyAChangedBundle : Obligations.StepRefusesExactlyAChangedBundle := by
  refine fun s r => ⟨fun h => ?_, ?_⟩
  · obtain ⟨hnone, hrefused⟩ | ⟨p, -, ⟨-, hstep⟩ | ⟨-, a, -, hstep⟩ | ⟨-, -, hstep⟩⟩ := step_cases s
    · cases hrefused.symm.trans h
      exact ⟨rfl, portAfter_eq_none hnone⟩
    · cases hstep.symm.trans h
    · exact absurd (hstep.symm.trans h) (consumeAnswer_ne_refused a _ r)
    · obtain ⟨t, ht⟩ := acceptBundle_answers_next (setPort p (takeMove s))
      cases (hstep.trans ht).symm.trans h
  · rintro ⟨rfl, a, b, hheld, hdriven, hne⟩
    have hnone : portAfter s.port (nextMove s).present = none := by simp [portAfter, hheld, hdriven, hne]
    obtain ⟨-, hrefused⟩ | ⟨p, hport, -⟩ := step_cases s
    · exact hrefused
    · cases hnone.symm.trans hport

/-! ### The arrows of a step without reset (R120 to R124) -/

/-- What the block can do to a settled state in a step without reset. In IDLE the accepted bundle has left the port. -/
inductive Effect (s : State) : State → Prop where
  /-- Nothing is accepted or consumed (R124). -/
  | wait (p : Option Bundle) : Effect s (setPort p s)
  /-- A command completes at once, writing RESP. -/
  | responds (r : Response) : s.fsm = .idle → RespInv s.cfg r → Effect s (respond r (setPort none s))
  /-- A bundle is refused (R66). -/
  | refuses (c : IllegalCommand) : s.fsm = .idle → Effect s (refuseBundle c (setPort none s))
  /-- RECEIVE (R130). -/
  | polls : s.fsm = .idle → Effect s (setFsm .rxWait (issue (.rx 16) (setPort none s)))
  /-- REKEY (R146). -/
  | rekeys (k : Byte) : s.fsm = .idle → Effect s (respond (doneResponse 0x3 .noError) (setKey k (setPort none s)))
  /-- SEND of at most 10 bytes (R142, R143). -/
  | handsOver (dest : Byte) (len : BitVec 5) (buf : Buf) (e : Encoded) : s.fsm = .idle → len.toNat ≤ 10 →
      encodeFrame s.cfg dest len buf s.key = e →
      Effect s (setFsm .txWait (issue (.tx (cells e.frame 0 e.length.toNat) e.length)
        (loadLatch e.frame e.length (setPort none s))))
  /-- RECEIVE's answer (R121). -/
  | reports (st : RxStatus) (bs : List Byte) (r : Response) : s.fsm = .rxWait →
      receiveResult s.cfg s.key st bs = .ok r → Effect s (setFsm .idle (respond r s))
  /-- SEND's first answer (R122). -/
  | captures (st : TxStatus) (e : ErrorKind) : s.fsm = .txWait → st.error? = some e →
      Effect s (setFsm .restoreWait (issue .crx (captureStatus e s)))
  /-- SEND's last answer (R123). -/
  | finishes (ok : Bool) : s.fsm = .restoreWait →
      Effect s (setFsm .idle (clearLatch (respond (doneResponse 0x2 (sendError ok s.sendst)) s)))

theorem consumeAnswer_effect {a : Answer} {s t : State} (h : consumeAnswer a s = .next t) : Effect s t := by
  obtain ⟨st, bs, hfsm, -, hrx⟩ | ⟨st, hfsm, -, htx⟩ | ⟨ok, hfsm, -, hcrx⟩ | hbad := consumeAnswer_cases a s
  · obtain ⟨r, hr, hnext⟩ | ⟨f, -, hf⟩ := finishReceive_cases st bs s
    · cases (hrx.trans hnext).symm.trans h
      exact .reports st bs r hfsm hr
    · cases (hrx.trans hf).symm.trans h
  · obtain ⟨e, he, hnext⟩ | ⟨-, hf⟩ := captureSend_cases st s
    · cases (htx.trans hnext).symm.trans h
      exact .captures st e hfsm he
    · cases (htx.trans hf).symm.trans h
  · cases hcrx.symm.trans h
    exact .finishes ok hfsm
  · cases hbad.symm.trans h

/-- A command's shape is `exec_next_cases`'; the form of its response is `exec_resp`'s. -/
theorem exec_effect {i : Instr} {s t : State} (h : exec i (setPort none s) = .next t) : Effect s t := by
  have hresp := exec_resp h
  obtain rfl | ⟨hidle, ⟨r, rfl⟩ | ⟨c, rfl⟩ | ⟨-, rfl⟩ | ⟨k, -, rfl⟩ | ⟨dest, len, buf, e, -, hlen, he, rfl⟩⟩ :=
    exec_next_cases h
  · exact .wait none
  · obtain rfl | hform := hresp
    · exact .wait none
    · exact .responds r hidle hform
  · exact .refuses c hidle
  · exact .polls hidle
  · exact .rekeys k hidle
  · exact .handsOver dest len buf e hidle hlen he

theorem acceptBundle_effect {s t : State} (h : acceptBundle s = .next t) : Effect s t := by
  obtain ⟨-, hsame⟩ | ⟨b, i, -, -, -, hexec⟩ | ⟨b, e, hidle, -, -, hrefuse⟩ := acceptBundle_cases s
  · cases hsame.symm.trans h
    exact .wait s.port
  · exact exec_effect (hexec.symm.trans h)
  · cases hrefuse.symm.trans h
    exact .refuses _ hidle

/-- Everything a step that answers next can be: the reset of the settled state, or one of the arrows from it. -/
theorem step_effect {s t : State} (h : step s = .next t) :
    ∃ p, ((nextMove s).reset = true ∧ t = resetBlock (settled s p)) ∨
      ((nextMove s).reset = false ∧ Effect (settled s p) t) := by
  obtain ⟨-, hrefused⟩ | ⟨p, -, ⟨hreset, hstep⟩ | ⟨hreset, a, -, hstep⟩ | ⟨hreset, -, hstep⟩⟩ := step_cases s
  · cases hrefused.symm.trans h
  · cases hstep.symm.trans h
    exact ⟨p, .inl ⟨hreset, rfl⟩⟩
  · exact ⟨p, .inr ⟨hreset, consumeAnswer_effect (hstep.symm.trans h)⟩⟩
  · exact ⟨p, .inr ⟨hreset, acceptBundle_effect (hstep.symm.trans h)⟩⟩

/-! ### The statements about every step -/

theorem Effect.cfg_eq {s t : State} (h : Effect s t) : t.cfg = s.cfg := by
  cases h <;> rfl

/-- Settles O51: neither reset nor an arrow writes the configuration. -/
theorem configurationIsNeverWritten : Obligations.ConfigurationIsNeverWritten := by
  intro s t h
  obtain ⟨p, ⟨-, rfl⟩ | ⟨-, heffect⟩⟩ := step_effect h
  · rfl
  · exact heffect.cfg_eq

theorem Effect.refusals_grow {s t : State} (h : Effect s t) : ∃ more, t.refusals = s.refusals ++ more := by
  cases h with
  | refuses c => exact ⟨[c], rfl⟩
  | _ => exact ⟨[], (List.append_nil _).symm⟩

theorem Effect.requests_grow {s t : State} (h : Effect s t) : ∃ more, t.requests = s.requests ++ more := by
  cases h with
  | polls => exact ⟨_, rfl⟩
  | handsOver => exact ⟨_, rfl⟩
  | captures => exact ⟨_, rfl⟩
  | _ => exact ⟨[], (List.append_nil _).symm⟩

/-- Settles O52: each arrow keeps or extends the two records; reset empties them. -/
theorem runRecordsGrowUntilReset : Obligations.RunRecordsGrowUntilReset := by
  intro s t h
  obtain ⟨p, ⟨hreset, rfl⟩ | ⟨hreset, heffect⟩⟩ := step_effect h
  · exact ⟨fun hno => by simp [hreset] at hno, fun _ => ⟨rfl, rfl⟩⟩
  · exact ⟨fun _ => ⟨heffect.refusals_grow, heffect.requests_grow⟩, fun hyes => by simp [hreset] at hyes⟩

/-- Settles O48: each of the nine arrows is one of the table's, and the request it issues is the one FSM then names. -/
theorem transitionTable : Obligations.TransitionTable := by
  intro s t h hreset
  obtain ⟨p, ⟨hyes, -⟩ | ⟨-, heffect⟩⟩ := step_effect h
  · simp [hreset] at hyes
  cases heffect with
  | wait => exact .inl ⟨rfl, rfl⟩
  | responds => exact .inl ⟨rfl, rfl⟩
  | refuses => exact .inl ⟨rfl, rfl⟩
  | rekeys => exact .inl ⟨rfl, rfl⟩
  | polls hidle => exact .inr (.inl ⟨hidle, rfl, rfl, rfl⟩)
  | handsOver dest len buf e hidle => exact .inr (.inr (.inl ⟨hidle, rfl, _, rfl, rfl⟩))
  | reports st bs r hfsm => exact .inr (.inr (.inr (.inl ⟨hfsm, rfl, rfl⟩)))
  | captures st e hfsm => exact .inr (.inr (.inr (.inr (.inl ⟨hfsm, rfl, rfl, rfl⟩))))
  | finishes ok hfsm => exact .inr (.inr (.inr (.inr (.inr ⟨hfsm, rfl, rfl⟩))))

end Sys2Proof.Machine

/-! ## The machine's invariant (10_state.md R33; 20_memory.md R53)

Each arrow of `Effect` keeps the three parts of the invariant that speak of registers. FSM decides which shape the latches and
the requests have, so every arrow is looked at once per part. -/

namespace Sys2Proof.Machine

/-- A latched frame has LEN + 6 bytes: 6 to 16. -/
theorem FrameInLatch.toNat_txlen {s : State} (h : FrameInLatch s) : 6 ≤ s.txlen.toNat ∧ s.txlen.toNat ≤ 16 := by
  obtain ⟨dest, len, buf, hlen, hframe⟩ := h
  have hlength := toNat_encodeFrame_length (c := s.cfg) (dest := dest) (key := s.key) (buf := buf) hlen
  rw [hframe] at hlength
  change s.txlen.toNat = _ at hlength
  omega

/-- A defined send status is captured as one of the three that SENDST may hold (R28, R84). -/
theorem sendStatus_of_error? {st : TxStatus} {e : ErrorKind} (h : st.error? = some e) : SendStatus e := by
  cases st <;> cases h
  · exact .inl rfl
  · exact .inr (.inl rfl)
  · exact .inr (.inr rfl)

/-- What SEND latches is a frame under KEY. -/
theorem encodeFrame_eta {c : Config} {dest key : Byte} {len : BitVec 5} {buf : Buf} (h : len.toNat ≤ 10) :
    encodeFrame c dest len buf key =
      { frame := (encodeFrame c dest len buf key).frame, length := (encodeFrame c dest len buf key).length,
        err := .noError } := by
  rw [← encodeFrame_err h]

/-! ### One shape per controller state -/

section ByFsm

variable {s : State}

theorem latchInv_idle (hfsm : s.fsm = .idle) : LatchInv s ↔ LatchEmpty s := by
  simp only [LatchInv, hfsm]

theorem latchInv_rxWait (hfsm : s.fsm = .rxWait) : LatchInv s ↔ LatchEmpty s := by
  simp only [LatchInv, hfsm]

theorem latchInv_txWait (hfsm : s.fsm = .txWait) : LatchInv s ↔ FrameInLatch s ∧ s.sendst = .noError := by
  simp only [LatchInv, hfsm]

theorem latchInv_restoreWait (hfsm : s.fsm = .restoreWait) : LatchInv s ↔ FrameInLatch s ∧ SendStatus s.sendst := by
  simp only [LatchInv, hfsm]

theorem traceInv_idle (hfsm : s.fsm = .idle) : TraceInv s ↔ Exchanges s.requests := by
  simp only [TraceInv, hfsm]

theorem traceInv_rxWait (hfsm : s.fsm = .rxWait) :
    TraceInv s ↔ ∃ l, Exchanges l ∧ s.requests = l ++ [.rx 16] := by
  simp only [TraceInv, hfsm]

theorem traceInv_txWait (hfsm : s.fsm = .txWait) :
    TraceInv s ↔ ∃ l, Exchanges l ∧ s.requests = l ++ [.tx (cells s.txbuf 0 s.txlen.toNat) s.txlen] := by
  simp only [TraceInv, hfsm]

theorem traceInv_restoreWait (hfsm : s.fsm = .restoreWait) :
    TraceInv s ↔ ∃ l, Exchanges l ∧ s.requests = l ++ [.tx (cells s.txbuf 0 s.txlen.toNat) s.txlen, .crx] := by
  simp only [TraceInv, hfsm]

end ByFsm

/-! ### Each part is kept by each arrow -/

theorem Effect.latchInv {s t : State} (h : Effect s t) (hlatch : LatchInv s) : LatchInv t := by
  cases h with
  | wait => exact hlatch
  | responds => exact hlatch
  | refuses => exact hlatch
  | rekeys k hidle =>
    refine (latchInv_idle ?_).mpr ((latchInv_idle hidle).mp hlatch)
    exact hidle
  | polls hidle => exact (latchInv_rxWait rfl).mpr ((latchInv_idle hidle).mp hlatch)
  | handsOver dest len buf e hidle hlen he =>
    obtain ⟨-, -, hsendst⟩ := (latchInv_idle hidle).mp hlatch
    refine (latchInv_txWait rfl).mpr ⟨⟨dest, len, buf, hlen, ?_⟩, hsendst⟩
    subst he
    exact encodeFrame_eta hlen
  | reports st bs r hfsm => exact (latchInv_idle rfl).mpr ((latchInv_rxWait hfsm).mp hlatch)
  | captures st e hfsm he =>
    obtain ⟨hframe, -⟩ := (latchInv_txWait hfsm).mp hlatch
    exact (latchInv_restoreWait rfl).mpr ⟨hframe, sendStatus_of_error? he⟩
  | finishes => exact (latchInv_idle rfl).mpr ⟨rfl, rfl, rfl⟩

/-- The latched frame makes SEND's two requests a finished exchange when its last answer comes (R53). -/
theorem Effect.traceInv {s t : State} (h : Effect s t) (hlatch : LatchInv s) (htrace : TraceInv s) : TraceInv t := by
  cases h with
  | wait => exact htrace
  | responds => exact htrace
  | refuses => exact htrace
  | rekeys => exact htrace
  | polls hidle => exact (traceInv_rxWait rfl).mpr ⟨_, (traceInv_idle hidle).mp htrace, rfl⟩
  | handsOver dest len buf e hidle => exact (traceInv_txWait rfl).mpr ⟨_, (traceInv_idle hidle).mp htrace, rfl⟩
  | reports st bs r hfsm =>
    obtain ⟨l, hl, hrequests⟩ := (traceInv_rxWait hfsm).mp htrace
    refine (traceInv_idle rfl).mpr ?_
    change Exchanges s.requests
    rw [hrequests]
    exact .poll l hl
  | captures st e hfsm =>
    obtain ⟨l, hl, hrequests⟩ := (traceInv_txWait hfsm).mp htrace
    refine (traceInv_restoreWait rfl).mpr ⟨l, hl, ?_⟩
    change s.requests ++ [.crx] = _
    rw [hrequests, List.append_assoc]
    rfl
  | finishes ok hfsm =>
    obtain ⟨hframe, -⟩ := (latchInv_restoreWait hfsm).mp hlatch
    obtain ⟨hlow, hhigh⟩ := hframe.toNat_txlen
    obtain ⟨l, hl, hrequests⟩ := (traceInv_restoreWait hfsm).mp htrace
    refine (traceInv_idle rfl).mpr ?_
    change Exchanges s.requests
    rw [hrequests]
    exact .send l _ _ hl (by rw [length_cells]; omega) hlow hhigh

theorem Effect.respInv {s t : State} (h : Effect s t) (hlegal : s.cfg.Legal) (hlatch : LatchInv s)
    (hresp : RespInv s.cfg s.resp) : RespInv t.cfg t.resp := by
  cases h with
  | wait => exact hresp
  | responds r _ hform => exact hform
  | refuses => exact respInv_illegal ..
  | rekeys => exact respInv_rekey _
  | polls => exact hresp
  | handsOver => exact hresp
  | reports st bs r _ hr => exact respInv_receiveResult hlegal hr
  | captures => exact hresp
  | finishes ok hfsm =>
    obtain ⟨-, hstatus⟩ := (latchInv_restoreWait hfsm).mp hlatch
    exact respInv_send _ hstatus ok

theorem Effect.inv {s t : State} (h : Effect s t) (hinv : Inv s) : Inv t := by
  obtain ⟨hlegal, hlatch, htrace, hresp⟩ := hinv
  exact ⟨h.cfg_eq ▸ hlegal, h.latchInv hlatch, h.traceInv hlatch htrace, h.respInv hlegal hlatch hresp⟩

/-- Reset leaves empty latches, no requests and the reset response; the configuration stays legal. -/
theorem resetBlock_inv {s : State} (hlegal : s.cfg.Legal) : Inv (resetBlock s) :=
  ⟨hlegal, ⟨rfl, rfl, rfl⟩, .start, rfl⟩

/-- Settles O56: the constants at reset are legal, and every register has its reset value. -/
theorem resetHasTheInvariant : Obligations.ResetHasTheInvariant :=
  ⟨Config.atReset_legal, ⟨rfl, rfl, rfl⟩, .start, rfl⟩

/-- Settles O55: a step is a reset or an arrow of `Effect` from the settled state, which has the invariant as the state has. -/
theorem everyStepKeepsTheInvariant : Obligations.EveryStepKeepsTheInvariant := by
  intro s t hinv h
  obtain ⟨p, ⟨-, rfl⟩ | ⟨-, heffect⟩⟩ := step_effect h
  · exact resetBlock_inv hinv.1
  · exact heffect.inv hinv

/-- Settles O57: the invariant after the step, read in IDLE. -/
theorem nothingButKeyAndRespOutlivesACommand : Obligations.NothingButKeyAndRespOutlivesACommand := by
  intro s t hinv h hidle
  obtain ⟨-, hlatch, htrace, -⟩ := everyStepKeepsTheInvariant s t hinv h
  obtain ⟨htxbuf, htxlen, hsendst⟩ := (latchInv_idle hidle).mp hlatch
  exact ⟨htxbuf, htxlen, hsendst, outstanding_of_idle hidle, (traceInv_idle hidle).mp htrace⟩

end Sys2Proof.Machine

/-! ## Whole commands (42_session.md R124, R125, R139, R145, R147)

A RECEIVE or SEND is an acceptance, waits, and answers. The waits are one lemma by induction on their number; each of the
other steps is its own step lemma. -/

namespace Sys2Proof.Machine

/-! ### Waits -/

section Waits

variable {s : State}

/-- A quiet move to a busy block is used up and nothing else changes. -/
theorem step_quiet (hbusy : s.fsm ≠ .idle) (rest : List EnvMove) :
    step { s with env := quiet :: rest } = .next { s with env := rest } :=
  step_waits (s := { s with env := quiet :: rest }) hbusy ⟨rfl, rfl, portAfter_none s.port⟩

/-- Any number of quiet moves in front of a busy block are waits. -/
theorem run_quiet (hbusy : s.fsm ≠ .idle) (k n : Nat) (rest : List EnvMove) :
    Host.Core.run Sys2Proof.core (k + n) { s with env := List.replicate k quiet ++ rest } =
      Host.Core.run Sys2Proof.core n { s with env := rest } := by
  induction k with
  | zero => rw [Nat.zero_add, List.replicate_zero, List.nil_append]
  | succ k ih =>
    rw [Nat.succ_add, List.replicate_succ, List.cons_append, run_next _ (step_quiet hbusy _), ih]

/-- With no move to come the environment is quiet (log entry 3). -/
theorem step_exhausted (hbusy : s.fsm ≠ .idle) (henv : s.env = []) : step s = .next s := by
  have hmove : nextMove s = quiet := by rw [nextMove, henv]; rfl
  have hsettled : settled s s.port = s := by rw [settled, henv, List.tail_nil, ← henv]
  have hnothing : NothingDelivered s s.port := by
    rw [NothingDelivered, hmove]
    exact ⟨rfl, rfl, portAfter_none s.port⟩
  rw [step_waits hbusy hnothing, hsettled]

theorem run_exhausted (hbusy : s.fsm ≠ .idle) (henv : s.env = []) (k : Nat) :
    Host.Core.run Sys2Proof.core k s = .next s := by
  induction k with
  | zero => exact run_zero s
  | succ k ih => rw [run_next k (step_exhausted hbusy henv), ih]

end Waits

/-- Settles O43: quiet moves by `run_quiet`, no moves by `run_exhausted`. -/
theorem unansweredBlockWaitsForEver : Obligations.UnansweredBlockWaitsForEver :=
  fun _ k hbusy => ⟨fun rest => run_quiet hbusy k 0 rest, fun henv => run_exhausted hbusy henv k⟩

/-! ### Acceptance of an encoded command -/

section Acceptance

variable {s : State} {i : Instr} (hidle : s.fsm = .idle) (hwf : WellFormed i) (rest : List EnvMove)
include hidle hwf

/-- A held command is accepted in a quiet move. -/
theorem step_held : step { s with port := some (encodeBundle i), env := quiet :: rest } =
    exec i { s with port := none, env := rest } :=
  step_runs (s := { s with port := some (encodeBundle i), env := quiet :: rest }) ⟨hidle, rfl, rfl, rfl⟩
    (decodeBundle_encodeBundle hwf)

/-- A command presented to an empty port is accepted in the same step. -/
theorem step_presented : step { s with port := none, env := presenting (encodeBundle i) :: rest } =
    exec i { s with port := none, env := rest } :=
  step_runs (s := { s with port := none, env := presenting (encodeBundle i) :: rest }) ⟨hidle, rfl, rfl, rfl⟩
    (decodeBundle_encodeBundle hwf)

end Acceptance

/-! ### Answers to an empty port -/

section Answers

variable {s : State} (rest : List EnvMove)

/-- The transport's answer as the next move. -/
theorem delivers_answering (a : Answer) : Delivers { s with port := none, env := answering a :: rest } a none :=
  ⟨rfl, rfl, rfl⟩

theorem step_answering_rx (hfsm : s.fsm = .rxWait) (status : RxStatus) (bytes : List Byte) :
    step { s with port := none, env := answering (.rx status bytes) :: rest } =
      finishReceive status bytes { s with port := none, env := rest } :=
  step_rxAnswer (s := { s with port := none, env := answering (.rx status bytes) :: rest }) hfsm (delivers_answering rest _)

theorem step_answering_tx (hfsm : s.fsm = .txWait) (status : TxStatus) :
    step { s with port := none, env := answering (.tx status) :: rest } =
      captureSend status { s with port := none, env := rest } :=
  step_txAnswer (s := { s with port := none, env := answering (.tx status) :: rest }) hfsm (delivers_answering rest _)

theorem step_answering_crx (hfsm : s.fsm = .restoreWait) (ok : Bool) :
    step { s with port := none, env := answering (.crx ok) :: rest } =
      finishSend ok { s with port := none, env := rest } :=
  step_crxAnswer (s := { s with port := none, env := answering (.crx ok) :: rest }) hfsm (delivers_answering rest _)

end Answers

/-! ### RECEIVE (R125, R139) -/

/-- The block in RX_WAIT, its poll issued. -/
def polling (s : State) : State := { s with fsm := .rxWait, requests := s.requests ++ [.rx 16] }

theorem polling_busy (s : State) : (polling s).fsm ≠ .idle := by
  simp [polling]

section PollIssued

variable {s : State} (hidle : s.fsm = .idle) (rest : List EnvMove)
include hidle

theorem step_receiveHeld :
    step { s with port := some (encodeBundle .receive), env := quiet :: rest } =
      .next { polling s with port := none, env := rest } :=
  (step_held hidle (i := .receive) rfl rest).trans (execReceive_idle (s := { s with port := none, env := rest }) hidle)

theorem step_receivePresented :
    step { s with port := none, env := presenting (encodeBundle .receive) :: rest } =
      .next { polling s with port := none, env := rest } :=
  (step_presented hidle (i := .receive) rfl rest).trans
    (execReceive_idle (s := { s with port := none, env := rest }) hidle)

end PollIssued

/-- The last step of a RECEIVE responds, or is the fault of receive_result; KEY and the configuration are the polling
state's own. -/
theorem run_receiveAnswer (s : State) (status : RxStatus) (bytes : List Byte) (rest : List EnvMove) :
    Host.Core.run Sys2Proof.core 1 { polling s with port := none, env := answering (.rx status bytes) :: rest } =
      match receiveResult s.cfg s.key status bytes with
      | .ok r => .next { polling s with port := none, env := rest, resp := r, fsm := .idle }
      | .error f => .fault f := by
  have hstep := step_answering_rx (s := polling s) rest rfl status bytes
  cases hresult : receiveResult s.cfg s.key status bytes with
  | ok r => exact run_next 0 (hstep.trans (finishReceive_ok (s := { polling s with port := none, env := rest }) hresult))
  | error f =>
    exact run_fault 0 (hstep.trans (finishReceive_error (s := { polling s with port := none, env := rest }) hresult))

/-- Settles O30: the acceptance leads to RX_WAIT, the waits stay there, and the answer leads back to IDLE. -/
theorem receiveFromAcceptanceToResponse : Obligations.ReceiveFromAcceptanceToResponse := by
  intro s k status bytes rest hidle
  have haccept := step_receiveHeld hidle (List.replicate k quiet ++ answering (.rx status bytes) :: rest)
  have hwaits := run_quiet (s := { polling s with port := none }) (polling_busy s) k 1 (answering (.rx status bytes) :: rest)
  rw [run_next (k + 1) haccept]
  refine (hwaits.trans (run_receiveAnswer s status bytes rest)).trans ?_
  cases receiveResult s.cfg s.key status bytes with
  | ok r => rw [polling, ← hidle]
  | error f => rfl

/-! ### SEND (R145) -/

/-- The block in TX_WAIT, the frame encoded under KEY latched and handed over. -/
def sending (s : State) (dest : Byte) (len : BitVec 5) (buf : Buf) : State :=
  { s with
    fsm := .txWait
    txbuf := (encodeFrame s.cfg dest len buf s.key).frame
    txlen := len + 6
    requests := s.requests ++
      [.tx (cells (encodeFrame s.cfg dest len buf s.key).frame 0 (len.toNat + 6)) (len + 6)] }

/-- The block in RESTORE_WAIT, the send's error captured and the restore requested. -/
def restoring (s : State) (e : ErrorKind) : State :=
  { s with fsm := .restoreWait, sendst := e, requests := s.requests ++ [.crx] }

/-- The acceptance of a SEND of at most 10 bytes and the waits after it. -/
theorem run_sendAccepted {s : State} (hidle : s.fsm = .idle) (dest : Byte) {len : BitVec 5} (buf : Buf)
    (hlen : len.toNat ≤ 10) (j n : Nat) (rest : List EnvMove) :
    Host.Core.run Sys2Proof.core (j + n + 1)
        { s with port := some (encodeBundle (.send dest len buf)), env := quiet :: (List.replicate j quiet ++ rest) } =
      Host.Core.run Sys2Proof.core n { sending s dest len buf with port := none, env := rest } := by
  have haccept := (step_held hidle (i := .send dest len buf) rfl (List.replicate j quiet ++ rest)).trans
    (execSend_short hidle hlen)
  rw [run_next (j + n) haccept]
  exact run_quiet (s := { sending s dest len buf with port := none }) (by simp [sending]) j n rest

/-- The send's answer, the waits after it, and the restore's answer. -/
theorem run_sendAnswers {s : State} (hfsm : s.fsm = .txWait) {status : TxStatus} {e : ErrorKind}
    (he : status.error? = some e) (ok : Bool) (k : Nat) (rest : List EnvMove) :
    Host.Core.run Sys2Proof.core (k + 2)
        { s with port := none,
                 env := answering (.tx status) :: (List.replicate k quiet ++ answering (.crx ok) :: rest) } =
      .next { restoring s e with
        port := none, env := rest, resp := doneResponse 0x2 (sendError ok e),
        txbuf := zeroBuf, txlen := 0, sendst := .noError, fsm := .idle } := by
  have hcapture := (step_answering_tx (List.replicate k quiet ++ answering (.crx ok) :: rest) hfsm status).trans
    (captureSend_defined he _)
  rw [run_next (k + 1) hcapture]
  refine (run_quiet (s := { restoring s e with port := none }) (by simp [restoring]) k 1 _).trans ?_
  exact run_next 0 (step_answering_crx (s := restoring s e) rest rfl ok)

/-- Settles O36: acceptance and waits, then either the two answers or the fault of the reserved status. -/
theorem sendFromAcceptanceToResponse : Obligations.SendFromAcceptanceToResponse := by
  intro s dest len buf j k status ok rest hidle hlen
  refine ⟨fun e he => ?_, ?_⟩
  · have haccepted := run_sendAccepted hidle dest buf hlen j (k + 2)
      (answering (.tx status) :: (List.replicate k quiet ++ answering (.crx ok) :: rest))
    have hanswered := run_sendAnswers (s := sending s dest len buf) rfl he ok k rest
    refine (haccepted.trans hanswered).trans ?_
    rw [restoring, sending, List.append_assoc, ← hidle]
    rfl
  · rintro rfl
    have haccepted := run_sendAccepted hidle dest buf hlen j 1 (answering (.tx .reserved) :: rest)
    exact haccepted.trans (run_fault 0 (step_answering_tx (s := sending s dest len buf) rest rfl .reserved))

/-! ### REKEY and the frames under the old key (R147, R190) -/

/-- What is reported of an encoded frame: its destination and source, resolved, and its payload (R138). -/
theorem messageReport_encodeFrame (c : Config) (dest key : Byte) {len : BitVec 5} (buf : Buf) (hlen : len.toNat ≤ 10)
    (valid : Bool) (err : ErrorKind) :
    messageReport c (encodeFrame c dest len buf key).frame valid err =
      { doneResponse 0x1 err with
        avail := true, valid := valid, dst := resolve c dest, src := resolve c c.ownLocation,
        len := len, buf := operandBuf len buf } := by
  have hsize := sizeNibble_encodeFrame (c := c) (dest := dest) (key := key) (buf := buf) hlen
  have hpayload := payload_parseBody_encodeFrame c dest key buf hlen
  change bufOfBytes (cells _ 5 (sizeNibble _ + 5)) = _ at hpayload
  obtain ⟨hdest, hsrc, -⟩ := cell_encodeFrame_header (c := c) (dest := dest) (key := key) (buf := buf) hlen
  rw [messageReport, hdest, hsrc, Nat.add_comm 5, hpayload, hsize, BitVec.ofNat_toNat, BitVec.setWidth_eq]
  rfl

/-- RECEIVE of a frame this configuration encoded under `k0`: its length and its CRC are right, so the key check alone
decides. -/
theorem receiveResult_encodeFrame (c : Config) (k0 key dest : Byte) {len : BitVec 5} (buf : Buf) (hlow : 1 ≤ len.toNat)
    (hhigh : len.toNat ≤ 10) :
    receiveResult c key .ok (cells (encodeFrame c dest len buf k0).frame 0 (len.toNat + 6)) =
      .ok { doneResponse 0x1 (if k0 = key then .noError else .keyError) with
        avail := true, valid := decide (k0 = key), dst := resolve c dest, src := resolve c c.ownLocation,
        len := len, buf := operandBuf len buf } := by
  have hlength : (cells (encodeFrame c dest len buf k0).frame 0 (len.toNat + 6)).length = len.toNat + 6 := by
    rw [cells_encodeFrame_whole hhigh, length_encodedBytes hhigh]
  have hsize := sizeNibble_encodeFrame (c := c) (dest := dest) (key := k0) (buf := buf) hhigh
  have hcrc := cell_encodeFrame_crc (c := c) (dest := dest) (key := k0) (buf := buf) hhigh
  obtain ⟨-, -, hkey⟩ := cell_encodeFrame_header (c := c) (dest := dest) (key := k0) (buf := buf) hhigh
  obtain ⟨-, -, -, -, -, -, hreport⟩ :=
    receiveOutcomesRowByRow c key (cells (encodeFrame c dest len buf k0).frame 0 (len.toNat + 6))
  rw [bufOfBytes_cells_encodeFrame hhigh, hlength, hsize, Nat.add_comm len.toNat 5, ← hcrc, hkey] at hreport
  rw [hreport (by omega) (by omega) hhigh, messageReport_encodeFrame c dest k0 buf hhigh]
  simp only [ne_eq, not_true_eq_false, if_false, true_and, ite_not]

theorem step_rekeyHeld {s : State} (hidle : s.fsm = .idle) (newKey : Byte) (rest : List EnvMove) :
    step { s with port := some (encodeBundle (.rekey newKey)), env := quiet :: rest } =
      .next { s with port := none, env := rest, key := newKey, resp := doneResponse 0x3 .noError } :=
  (step_held hidle (i := .rekey newKey) rfl rest).trans
    (execRekey_idle (s := { s with port := none, env := rest }) hidle newKey)

/-- Settles O38: REKEY writes KEY, RECEIVE polls, and the answer is judged under the new KEY. -/
theorem oldKeyFramesFailAfterRekey : Obligations.OldKeyFramesFailAfterRekey := by
  intro s k0 newKey dest len buf rest hidle hlow hhigh
  have hanswered := run_receiveAnswer { s with key := newKey, resp := doneResponse 0x3 .noError } .ok
    (cells (encodeFrame s.cfg dest len buf k0).frame 0 (len.toNat + 6)) rest
  rw [receiveResult_encodeFrame s.cfg k0 newKey dest buf hlow hhigh] at hanswered
  rw [run_next 2 (step_rekeyHeld hidle newKey _)]
  have hpolled := step_receivePresented (s := { s with key := newKey, resp := doneResponse 0x3 .noError }) hidle
    (answering (.rx .ok (cells (encodeFrame s.cfg dest len buf k0).frame 0 (len.toNat + 6))) :: rest)
  refine (run_next 1 hpolled).trans (hanswered.trans ?_)
  rw [polling, ← hidle]
  rfl

end Sys2Proof.Machine
